-- ==== Sys2Proof/Word.lean ====
section
/-! DEFINITION. The word types of the block (00_scope.md rules R6, R41): the 8-bit byte, the 16-bit and
32-bit values, and the byte sequence. Nothing wider than 32 bits is ever read or written as a unit. -/

namespace Sys2Proof

/-- The addressable unit of every buffer, 8 bits (R6 `BYTE`). -/
abbrev Byte := BitVec 8

/-- A 16-bit value: two adjacent bytes (R41). -/
abbrev Word16 := BitVec 16

/-- A 32-bit value: four adjacent bytes (R41). -/
abbrev Word32 := BitVec 32

/-- A buffer: a finite sequence of bytes, the first at offset 0 (00_scope.md section 6). -/
abbrev Bytes := List Byte

end Sys2Proof
end

