-- ==== Sys2Proof/Config.lean ====
section
/-! DEFINITION. The parameters the spec fixes for this hardware (00_scope.md rule R6), the OPEN
parameters as uninterpreted constants, and the free values: constants with no body, so that no proof
can see what they are. -/

namespace Sys2Proof.Config

/-- Time-to-live byte of every built IPv4 header (R6 `TTL`, R61). -/
def ttl : Byte := 64

/-- Protocol number of TCP (R6 `PROTO_TCP`, R61, R68). -/
def protoTcp : Byte := 6

/-- Window field of every built TCP header (R6 `WINDOW`, R64). -/
def window : Word16 := 65535

/-- Size of the receive buffer handed to `receive` (R6 `RX_BUF_BYTES`, D16). -/
def rxBufBytes : Nat := 65535

/-- Greatest request length, and greatest payload of `TCP.BUILD` (R6 `REQ_MAX`, R112). -/
def reqMax : Nat := 65495

/-- Greatest `payloadLength` of `IPH.BUILD` and greatest segment of `TCP.FIN` (R102, R113). -/
def segMax : Nat := 65515

/-- Shortest buffer `TCP.PARSE` accepts (R6 `MIN_PARSE_LEN`, R117). -/
def minParseLen : Nat := 40

/-- What an offset of the receive buffer that nothing has written reads as.
DESIGN CHOICE, unsafe: R33 leaves the contents of `rxbuf` unspecified (assumption log 11). -/
def unlistedByte : Byte := 0

/-- Ticks of `now` per second (R6 `TICK_HZ`, OPEN). -/
opaque tickHz : Nat

/-- The idle interval in ticks (R6 `IDLE_TIMEOUT_TICKS`, OPEN) as the machine has it after reset. -/
opaque idleTimeoutTicks : Nat

/-- R195's reference value of the idle interval: 180 seconds. -/
def referenceIdleTimeoutTicks : Nat := 180 * tickHz

/-- A free 16-bit value, by number of use (assumption log 27). -/
opaque free16 : Nat → Word16

/-- A free 32-bit value, by number of use (assumption log 27). -/
opaque free32 : Nat → Word32

/-- A free natural number, by number of use (assumption log 27). -/
opaque freeNat : Nat → Nat

/-- A free byte sequence, by number of use (assumption log 27). -/
opaque freeBytes : Nat → Bytes

end Sys2Proof.Config
end

