-- ==== Sys2Proof/Syntax.lean ====
section
/-! DEFINITION. The instructions: one constructor per row of spec/opcode_table.json, and the data their
operands are made of. The block decodes no instruction stream (R56, R60); its instructions are its
operations, its phase steps and the wire patterns the table lists. -/

namespace Sys2Proof

/-- An IPv4 address: four bytes in header order, the first of the dotted form first (R21). It is copied
byte for byte and never reversed (R44). -/
structure Addr where
  b0 : Byte
  b1 : Byte
  b2 : Byte
  b3 : Byte
deriving DecidableEq, Repr

/-- The result record of `TCP.PARSE` (R116). -/
structure TcpSegment where
  srcAddr : Addr
  dstAddr : Addr
  sport   : Word16
  dport   : Word16
  seq     : Word32
  ack     : Word32
  doff    : BitVec 4
  flags   : BitVec 6
  payload : Bytes
deriving DecidableEq, Repr

/-- The sequencer position (R19). -/
inductive Phase where
  | idle | sendSyn | waitSynAck | sendAck | sendReq | recv | sendFinAck | done
deriving DecidableEq, Repr

/-- The connection state tag (R12). -/
inductive Tag where
  | closed | synSent | established | finWait
deriving DecidableEq, Repr

/-- The block's operations, one constructor per row of the opcode table. -/
inductive Instr where
  /-- `CSUM(B)`, R91. -/
  | csum (B : Bytes)
  /-- `IPH.BUILD(src, dst, payloadLength, ident)`, R101. -/
  | iphBuild (src dst : Addr) (payloadLength : Nat) (ident : Word16)
  /-- `IPH.FIN(H)`, R103. -/
  | iphFin (H : Bytes)
  /-- `TCP.BUILD(sourcePort, destPort, seq, ack, flags, payload)`, R111. -/
  | tcpBuild (sourcePort destPort : Word16) (seq ack : Word32) (flags : BitVec 6) (payload : Bytes)
  /-- `TCP.FIN(G, src, dst)`, R113. -/
  | tcpFin (G : Bytes) (src dst : Addr)
  /-- `TCP.PARSE(raw)`, R117. -/
  | tcpParse (raw : Bytes)
  /-- `CSM.OPEN(port, iss, rport)`, R131. -/
  | csmOpen (port : Word16) (iss : Word32) (rport : Word16)
  /-- `CSM.SYNACK(seg)`, R132. -/
  | csmSynAck (seg : TcpSegment)
  /-- `CSM.SEGMENT(seg)`, R133. -/
  | csmSegment (seg : TcpSegment)
  /-- `CSM.CLOSE()`, R134. -/
  | csmClose
  /-- `CSM.ABORT()`, R135. -/
  | csmAbort
  /-- `START(laddr, raddr, rport, request, chan_ready)`, R150. -/
  | start (laddr raddr : Addr) (rport : Word16) (request : Bytes) (chanReady : Bool)
  /-- `STEP()`: the phase step that register `phase` selects, R162. -/
  | step
  /-- `RESET()`, R210. -/
  | reset
  /-- `STEP.IDLE`, R163. -/
  | stepIdle
  /-- `STEP.SEND_SYN`, R154. -/
  | stepSendSyn
  /-- `STEP.WAIT_SYNACK`, R155. -/
  | stepWaitSynAck
  /-- `STEP.SEND_ACK`, R156. -/
  | stepSendAck
  /-- `STEP.SEND_REQ`, R157. -/
  | stepSendReq
  /-- `STEP.RECV`, R158. -/
  | stepRecv
  /-- `STEP.SEND_FINACK`, R159. -/
  | stepSendFinAck
  /-- `STEP.DONE`, R160. -/
  | stepDone
  /-- The pseudo-operation `SYN(seq=S, ack=0)`, R82. -/
  | pktSyn
  /-- The pseudo-operation `ACK(seq=S+1, ack=R+1)`, R82. -/
  | pktAck
  /-- The pseudo-operation `PSH+ACK(seq=S+1, ack=R+1)` carrying the request, R82. -/
  | pktReq
  /-- The pseudo-operation `ACK(seq=S+1, ack=remoteSeq+1)` acknowledging the FIN, R82. -/
  | pktFinalAck
  /-- The test "SYN and ACK flags set" on an inbound flag byte, R72. -/
  | inSynAckTest (flagByte : Byte)
  /-- The test "FIN set" on an inbound flag byte, R72. -/
  | inFinTest (flagByte : Byte)
  /-- IPv4 header byte 0 as built: version 4, IHL 5, R61. -/
  | ipByte0
  /-- TCP header byte 12 as built: data offset 5, reserved 0, R64, R66. -/
  | tcpByte12
deriving DecidableEq, Repr

/-- Where a bit pattern of the table stands, which is what tells patterns with the same bits apart
(R60: the codes and the wire bytes are different kinds of pattern; assumption log 4). -/
inductive Place where
  /-- the operation-select code of an operation the caller issues (R79, R80) -/
  | caller
  /-- the operation-select code of an event the orchestrator performs (R79, R130) -/
  | event
  /-- the STEP code with the phase register behind it (R79, table format PHASE) -/
  | sequencer
  /-- the flag byte of the packet built in phase `ph` (R82, R136) -/
  | built (ph : Phase)
  /-- the flag byte of a segment received in phase `ph` (R72) -/
  | inbound (ph : Phase)
  /-- IPv4 header offset 0 -/
  | ipHeader0
  /-- TCP header offset 12 -/
  | tcpHeader12
deriving DecidableEq, Repr

/-- One command: where its bytes stand, and its bytes, code first (assumption log 1, log 3). -/
structure Command where
  place : Place
  bytes : Bytes
deriving DecidableEq, Repr

/-- Why the decoder rejects a command. -/
inductive DecodeError where
  /-- the code is none of R79's (R80: refused by name) -/
  | unusedCode (code : Byte)
  /-- a `CSM.*` code from the caller (R80, R130: not offered to the caller) -/
  | notOfferedToCaller (code : Byte)
  /-- the operands are shorter or longer than the operation's -/
  | operandLength
  /-- an operand byte has a bit set that the operand does not have -/
  | operandBits
  /-- the byte is not the pattern the table gives for this place -/
  | notThisPattern
  /-- the table has no pattern for this place -/
  | noPatternHere
deriving DecidableEq, Repr

end Sys2Proof
end

