-- ==== Sys2Proof/Machine/Operands.lean ====
section
/-! DEFINITION. Operand forms: how multi-byte values, addresses and the table's small fields lie in bytes
(20_memory.md rules R42 to R44, 30_encoding.md rules R66, R73), reading and writing a buffer at an
offset, and the numeric codes of the enumerated registers (R76, R77). -/

namespace Sys2Proof

/-- A 16-bit value as two bytes, most significant first (R42). -/
def be16 (v : Word16) : Bytes := [v.extractLsb' 8 8, v.extractLsb' 0 8]

/-- A 32-bit value as four bytes, most significant first (R42). -/
def be32 (v : Word32) : Bytes :=
  [v.extractLsb' 24 8, v.extractLsb' 16 8, v.extractLsb' 8 8, v.extractLsb' 0 8]

/-- Two bytes read as a 16-bit value, the first the high one (`MemRead(B+off, 2)`). -/
def word16Of (hi lo : Byte) : Word16 := hi ++ lo

/-- Four bytes read as a 32-bit value, the first the highest (`MemRead(B+off, 4)`). -/
def word32Of (a b c d : Byte) : Word32 := a ++ b ++ c ++ d

/-- The four bytes of an address in header order (R73). -/
def Addr.bytes (a : Addr) : Bytes := [a.b0, a.b1, a.b2, a.b3]

/-- An address from a 32-bit value, its highest byte first. -/
def addrOfWord32 (v : Word32) : Addr :=
  ⟨v.extractLsb' 24 8, v.extractLsb' 16 8, v.extractLsb' 8 8, v.extractLsb' 0 8⟩

/-- `MemRead(B+off, 1)`; none outside the buffer (R46). -/
def readByte (B : Bytes) (off : Nat) : Option Byte := B[off]?

/-- `MemRead(B+off, 2)`; none outside the buffer (R42, R46). -/
def read16 (B : Bytes) (off : Nat) : Option Word16 :=
  match readByte B off, readByte B (off + 1) with
  | some hi, some lo => some (word16Of hi lo)
  | _, _ => none

/-- `MemRead(B+off, 4)`; none outside the buffer (R42, R46). -/
def read32 (B : Bytes) (off : Nat) : Option Word32 :=
  match readByte B off, readByte B (off + 1), readByte B (off + 2), readByte B (off + 3) with
  | some a, some b, some c, some d => some (word32Of a b c d)
  | _, _, _, _ => none

/-- Four bytes of a buffer copied as an address (R44). -/
def readAddr (B : Bytes) (off : Nat) : Option Addr :=
  match readByte B off, readByte B (off + 1), readByte B (off + 2), readByte B (off + 3) with
  | some a, some b, some c, some d => some ⟨a, b, c, d⟩
  | _, _, _, _ => none

/-- `MemWrite(B+off, 2, v)` on a buffer that holds both offsets (R42, R43). -/
def write16 (B : Bytes) (off : Nat) (v : Word16) : Bytes :=
  (B.set off (v.extractLsb' 8 8)).set (off + 1) (v.extractLsb' 0 8)

/-- Bits 7..4 of a byte (R66). -/
def highNibble (b : Byte) : BitVec 4 := b.extractLsb' 4 4

/-- Bits 3..0 of a byte (R66). -/
def lowNibble (b : Byte) : BitVec 4 := b.extractLsb' 0 4

/-- A byte put together from its two nibbles (R66). -/
def nibbles (hi lo : BitVec 4) : Byte := hi ++ lo

/-- A flag set as the byte built from it: bits 7..6 zero (R70, R111). -/
def flagByteOf (f : BitVec 6) : Byte := f.setWidth 8

/-- The flag set of a received flag byte: bits 5..0 (R70, R118). -/
def flagsOfByte (b : Byte) : BitVec 6 := b.extractLsb' 0 6

/-- The row's mask and match of the inbound SYN+ACK test (R72). -/
def matchesSynAck (f : Byte) : Bool := f &&& 0x12 == 0x12

/-- The row's mask and match of the inbound FIN test (R72). -/
def matchesFin (f : Byte) : Bool := f &&& 0x01 == 0x01

/-- `a +32 1`: modulo 2^32 (R139). -/
def succ32 (a : Word32) : Word32 := a + 1

/-- `a −t b`, defined where `b ≤ a` (R196; assumption log 30). -/
def tickSub (a b : Nat) : Nat := a - b

/-- The 2-bit code of a tag (R76). -/
def Tag.code : Tag → BitVec 2
  | .closed => 0 | .synSent => 1 | .established => 2 | .finWait => 3

/-- The 3-bit code of a phase (R77). -/
def Phase.code : Phase → BitVec 3
  | .idle => 0 | .sendSyn => 1 | .waitSynAck => 2 | .sendAck => 3
  | .sendReq => 4 | .recv => 5 | .sendFinAck => 6 | .done => 7

/-- The phase a 3-bit code stands for (R77). -/
def Phase.ofCode (c : BitVec 3) : Phase :=
  if c = 0 then .idle else if c = 1 then .sendSyn else if c = 2 then .waitSynAck
  else if c = 3 then .sendAck else if c = 4 then .sendReq else if c = 5 then .recv
  else if c = 6 then .sendFinAck else .done

/-- The tag that a phase fixes (R34 c, R161). -/
def Phase.tag : Phase → Tag
  | .idle => .closed | .sendSyn => .synSent | .waitSynAck => .synSent
  | .sendAck => .established | .sendReq => .established | .recv => .established
  | .sendFinAck => .finWait | .done => .closed

end Sys2Proof
end

