-- ==== Sys2Proof/Machine/Flags.lean ====
section
/-! DEFINITION. The block has no condition codes (R28); "flags" means the 6-bit TCP flag set of a segment.
Its masks (R70), the three flag sets the block builds (R71) and the two tests on a received set (R72). -/

namespace Sys2Proof.Machine

/-- R70, bit 0. -/
def flagFIN : BitVec 6 := 0x01
/-- R70, bit 1. -/
def flagSYN : BitVec 6 := 0x02
/-- R70, bit 2. -/
def flagRST : BitVec 6 := 0x04
/-- R70, bit 3. -/
def flagPSH : BitVec 6 := 0x08
/-- R70, bit 4. -/
def flagACK : BitVec 6 := 0x10
/-- R70, bit 5. -/
def flagURG : BitVec 6 := 0x20

/-- The flag set of the first packet (R71). -/
def builtSyn : BitVec 6 := flagSYN
/-- The flag set of the two acknowledgments (R71). -/
def builtAck : BitVec 6 := flagACK
/-- The flag set of the request packet (R71). -/
def builtPshAck : BitVec 6 := flagPSH ||| flagACK

/-- "SYN and ACK flags set": mask and match 0x12, the other flags not looked at (R72). -/
def synAckSet (f : BitVec 6) : Bool := f &&& (flagSYN ||| flagACK) == (flagSYN ||| flagACK)

/-- "FIN set": mask and match 0x01, the other flags not looked at (R72). -/
def finSet (f : BitVec 6) : Bool := f &&& flagFIN == flagFIN

end Sys2Proof.Machine
end

