-- ==== Sys2Proof/Machine/State.lean ====
section
/-! DEFINITION. The state of the block: the registers and buffers of 10_state.md (R10 to R26), the
parameters of 00_scope.md R6, and what stands outside the block and is handed to it as an input (R31),
held as plain data; the faults and refusals; the state after reset (R33). -/

namespace Sys2Proof.Machine

/-- The outcome of the transfer (R20, R78). -/
inductive Result where
  | none | success | failSetup | failHandshake | failTransmission | failIdleTimeout
deriving DecidableEq, Repr

/-- The receive buffer's contents: (offset, byte) cells, offsets strictly rising, no cell holding what an
unlisted offset reads as. Each buffer is an address space of its own (R40). -/
abbrev Memory := List Host.Cell

/-- The parameters of the step relation that a model takes as arguments (R6, R29). No operation changes
them (R212); they stand in the state because a step has no other argument (assumption log 10). -/
structure Params where
  /-- `IDLE_TIMEOUT_TICKS`, OPEN -/
  idleTimeoutTicks : Nat
  /-- `HANDSHAKE_TIMEOUT_TICKS`, OPEN; `none` is `INF` -/
  handshakeTimeoutTicks : Option Nat
  /-- `FILTER_EN`: true is 1 -/
  filterEn : Bool
deriving DecidableEq, Repr

/-- A call the block made of a collaborator, with the answer (R198 to R201). -/
inductive Call where
  | draw16 (v : Word16)
  | draw32 (v : Word32)
  | now (t : Nat)
  | send (dest : Addr) (packet : Bytes) (status : Nat)
  | receive (packet : Bytes)
deriving DecidableEq, Repr

/-- What an operation with a result returned to its caller (R81, R117, R133; assumption log 14). -/
inductive Answer where
  | nothing
  | word (c : Word16)
  | byte (b : Byte)
  | buffer (B : Bytes)
  | segment (seg : Option TcpSegment)
  | flag (b : Bool)
deriving DecidableEq, Repr

/-- What stands outside the block: the commands issued to it, the collaborators' answers to come, and
the record of the calls made. The model's own fields, none of them the spec's state (R30, R31). -/
structure Outside where
  /-- commands issued and not yet performed, the next first (assumption log 1) -/
  cmds : List Command
  /-- the next answers of `draw16` (R200) -/
  draws16 : List Word16
  /-- the next answers of `draw32` (R200) -/
  draws32 : List Word32
  /-- how far the tick counter goes forward at each of the next calls of `now` (R201) -/
  ticks : List Nat
  /-- the next answers of `send`: 0 is ok, anything else an error (R198) -/
  statuses : List Nat
  /-- the next answers of `receive`: the packet, or the empty sequence for no-data (R199) -/
  packets : List Bytes
  /-- the last value `now` returned (R196) -/
  clock : Nat
  /-- how many free values have been used (assumption log 27) -/
  freeCount : Nat
  /-- the collaborator calls made so far, oldest first (R52, R165) -/
  trace : List Call
  /-- the result the last operation with a result returned -/
  answer : Answer
deriving DecidableEq, Repr

/-- The architectural state of the block (R10), its parameters, and the outside. -/
structure State where
  /-- R12 -/
  tag : Tag
  /-- R13 -/
  localPort : Word16
  /-- R14 -/
  remotePort : Word16
  /-- R15: the local initial sequence number -/
  S : Word32
  /-- R16: the remote initial sequence number -/
  R : Word32
  /-- R17 -/
  localSeq : Word32
  /-- R18 -/
  remoteSeq : Word32
  /-- R19 -/
  phase : Phase
  /-- R20 -/
  result : Result
  /-- R21 -/
  localAddr : Addr
  /-- R21 -/
  remoteAddr : Addr
  /-- R22 -/
  lastActivity : Nat
  /-- R23 -/
  synTime : Nat
  /-- R24 -/
  req : Bytes
  /-- R25 -/
  resp : Bytes
  /-- R26 -/
  rxbuf : Memory
  /-- R26 -/
  rxLen : Nat
  /-- R6, R29 -/
  params : Params
  /-- R31 -/
  outside : Outside
deriving DecidableEq, Repr

/-- Why the machine stops with a fault. -/
inductive Fault where
  /-- Raised by `STEP`, `STEP.WAIT_SYNACK` and `STEP.RECV` when the channel's next answer is longer than
  `RX_BUF_BYTES`: the channel breaks its duty of R202 and the write would leave the buffer (R46). Safe:
  the spec says nothing of such a run (assumption log 12). -/
  | receiveOverrun
deriving DecidableEq, Repr

/-- Why an instruction has no meaning. -/
inductive Refusal where
  /-- Raised by `exec` for an instruction the model has no meaning for. Safe. No arm raises it. -/
  | notModelled (mnemonic : String)
  /-- Raised by `IPH.BUILD`, `IPH.FIN`, `TCP.BUILD`, `TCP.FIN`, `STEP.SEND_REQ` and the request
  pseudo-operation when an operand is outside the range its rule allows (R102, R103, R112, R113: not
  defined there, a model refuses it). Safe. -/
  | operandOutOfRange
  /-- Raised by `START` when the request is longer than `REQ_MAX` (R170). Safe. -/
  | requestTooLong
  /-- Raised by a `CSM.*` event outside its precondition (R141), by `START` outside `PH_IDLE` (R170), and
  by a phase step in a phase or with a tag other than its rule's (R154 to R160, R34 c). Safe. -/
  | outsidePrecondition
  /-- Raised by `step` when the next command is none of the table's (R80: refused by name), or is a
  `CSM.*` event from the caller (R80, R130). Safe. -/
  | undecodable (why : DecodeError)
deriving DecidableEq, Repr

/-- The address 0.0.0.0. -/
def zeroAddr : Addr := ⟨0, 0, 0, 0⟩

/-- The parameters after reset: this hardware's `FILTER_EN` 1; the idle interval OPEN; the handshake
deadline at R6's default, equal to the idle interval (assumption log 10). -/
def Params.reset : Params where
  idleTimeoutTicks := Config.idleTimeoutTicks
  handshakeTimeoutTicks := some Config.idleTimeoutTicks
  filterEn := true

/-- The outside with nothing issued, nothing scripted and nothing called. -/
def Outside.reset : Outside where
  cmds := []
  draws16 := []
  draws32 := []
  ticks := []
  statuses := []
  packets := []
  clock := 0
  freeCount := 0
  trace := []
  answer := .nothing

/-- The block right after `RESET` (R33, R210): `tag`, `phase`, `result` and `resp` as the spec says.
DESIGN CHOICE, unsafe: the spec leaves every other register unspecified; here each is zero or empty
(assumption log 8). -/
def State.reset : State where
  tag := .closed
  localPort := 0
  remotePort := 0
  S := 0
  R := 0
  localSeq := 0
  remoteSeq := 0
  phase := .idle
  result := .none
  localAddr := zeroAddr
  remoteAddr := zeroAddr
  lastActivity := 0
  synTime := 0
  req := []
  resp := []
  rxbuf := []
  rxLen := 0
  params := Params.reset
  outside := Outside.reset

end Sys2Proof.Machine
end

