-- ==== Sys2Proof/Machine/Ops.lean ====
section
/-! DEFINITION. The named operations over the state: the receive buffer's bytes, the updates of registers,
the calls of the collaborators (R198 to R201), and the failure entry `raise Fail` (R186), the one form of
trap entry the block has. There is no return from it (R188), so none is defined beside it; only `RESET`
leaves `PH_DONE`. -/

namespace Sys2Proof.Machine

/-! ## The receive buffer (R26, R40) -/

/-- `MemRead(m+a, 1)`. -/
def Memory.readByte : Memory → Nat → Byte
  | [], _ => Config.unlistedByte
  | (k, v) :: rest, a => if a = k then v else Memory.readByte rest a

/-- `MemWrite(m+a, 1, b)`, keeping the canonical form. -/
def Memory.writeByte : Memory → Nat → Byte → Memory
  | [], a, b => if b = Config.unlistedByte then [] else [(a, b)]
  | (k, v) :: rest, a, b =>
    if a < k then
      if b = Config.unlistedByte then (k, v) :: rest else (a, b) :: (k, v) :: rest
    else if a = k then
      if b = Config.unlistedByte then rest else (a, b) :: rest
    else (k, v) :: Memory.writeByte rest a b

/-- The bytes `bs` written from offset `a` upward. -/
def Memory.writeBytes : Memory → Nat → Bytes → Memory
  | m, _, [] => m
  | m, a, b :: bs => Memory.writeBytes (Memory.writeByte m a b) (a + 1) bs

/-- The bytes at offsets `a` to `a + n - 1`: the slice `m[a..a+n)`. -/
def Memory.readBytes (m : Memory) (a : Nat) : Nat → Bytes
  | 0 => []
  | n + 1 => Memory.readByte m a :: Memory.readBytes m (a + 1) n

/-- The canonical form: offsets strictly rising, no cell holding the unlisted byte. -/
abbrev Memory.wf (m : Memory) : Prop :=
  m.Pairwise (fun x y => x.1 < y.1) ∧ ∀ c ∈ m, c.2 ≠ Config.unlistedByte

/-- No cell outside a buffer of `n` bytes (R40, R46). -/
abbrev Memory.below (m : Memory) (n : Nat) : Prop := ∀ c ∈ m, c.1 < n

/-! ## Updates of the state -/

/-- The next outside. -/
def State.withOutside (s : State) (o : Outside) : State := { s with outside := o }

/-- The result an operation returns to its caller. -/
def State.withAnswer (s : State) (a : Answer) : State :=
  { s with outside := { s.outside with answer := a } }

/-- A collaborator call is recorded. -/
def State.record (s : State) (c : Call) : State :=
  { s with outside := { s.outside with trace := s.outside.trace ++ [c] } }

/-- The next command is taken. -/
def State.withCmds (s : State) (cs : List Command) : State :=
  { s with outside := { s.outside with cmds := cs } }

/-- `phase <- ph` (R19). -/
def State.withPhase (s : State) (ph : Phase) : State := { s with phase := ph }

/-- `tag <- t` (R12). -/
def State.withTag (s : State) (t : Tag) : State := { s with tag := t }

/-- `result <- r` (R20). -/
def State.withResult (s : State) (r : Result) : State := { s with result := r }

/-- `last_activity <- t` (R22). -/
def State.withLastActivity (s : State) (t : Nat) : State := { s with lastActivity := t }

/-- `syn_time <- t` (R23). -/
def State.withSynTime (s : State) (t : Nat) : State := { s with synTime := t }

/-- The registers `START` writes itself (R150): the addresses and the request. -/
def State.withTransfer (s : State) (laddr raddr : Addr) (request : Bytes) : State :=
  { s with localAddr := laddr, remoteAddr := raddr, req := request }

/-- The registers `CSM.OPEN` writes beside the tag (R131). -/
def State.withOpened (s : State) (port : Word16) (iss : Word32) (rport : Word16) : State :=
  { s with localPort := port, remotePort := rport, S := iss, localSeq := iss }

/-- The registers `CSM.SYNACK` writes beside the tag (R132): `R`, `remote_seq`, `local_seq`. -/
def State.withPeerSeq (s : State) (seq : Word32) : State :=
  { s with R := seq, remoteSeq := seq, localSeq := succ32 s.S }

/-- The registers `CSM.SEGMENT` writes beside the tag (R133): `remote_seq`, and `resp` at its end. -/
def State.withSegment (s : State) (seq : Word32) (payload : Bytes) : State :=
  { s with remoteSeq := seq, resp := s.resp ++ payload }

/-- `rxbuf[0..len(p)) <- p` and `rx_len <- len(p)` (R26, R199). -/
def State.withReceived (s : State) (p : Bytes) : State :=
  { s with rxbuf := Memory.writeBytes s.rxbuf 0 p, rxLen := p.length }

/-- `rxbuf[0..rx_len)`: what the step hands to `TCP.PARSE` (R26, R117). -/
def State.received (s : State) : Bytes := Memory.readBytes s.rxbuf 0 s.rxLen

/-! ## The collaborators (60_exceptions.md section 7)

Each answers from its script; when the script is used up the answer is a free value (log 6). -/

/-- `draw16()` (R200). -/
def draw16 (s : State) : Word16 × State :=
  match s.outside.draws16 with
  | v :: rest => (v, (s.withOutside { s.outside with draws16 := rest }).record (.draw16 v))
  | [] =>
    let v := Config.free16 s.outside.freeCount
    (v, (s.withOutside { s.outside with freeCount := s.outside.freeCount + 1 }).record (.draw16 v))

/-- `draw32()` (R200). -/
def draw32 (s : State) : Word32 × State :=
  match s.outside.draws32 with
  | v :: rest => (v, (s.withOutside { s.outside with draws32 := rest }).record (.draw32 v))
  | [] =>
    let v := Config.free32 s.outside.freeCount
    (v, (s.withOutside { s.outside with freeCount := s.outside.freeCount + 1 }).record (.draw32 v))

/-- `now()`: the counter goes forward by any amount and never back (R196, R201). -/
def now (s : State) : Nat × State :=
  match s.outside.ticks with
  | d :: rest =>
    let t := s.outside.clock + d
    (t, (s.withOutside { s.outside with ticks := rest, clock := t }).record (.now t))
  | [] =>
    let t := s.outside.clock + Config.freeNat s.outside.freeCount
    (t, (s.withOutside { s.outside with
      freeCount := s.outside.freeCount + 1, clock := t }).record (.now t))

/-- `send(dest, bytes) -> status` (R198). -/
def send (dest : Addr) (packet : Bytes) (s : State) : Nat × State :=
  match s.outside.statuses with
  | st :: rest =>
    (st, (s.withOutside { s.outside with statuses := rest }).record (.send dest packet st))
  | [] =>
    let st := Config.freeNat s.outside.freeCount
    (st, (s.withOutside { s.outside with
      freeCount := s.outside.freeCount + 1 }).record (.send dest packet st))

/-- A `send` status reads as one bit: 0 is ok, anything else an error (R198, D16). -/
def statusIsError (st : Nat) : Bool := st != 0

/-- `(rxbuf, rx_len) <- receive()` (R199): one packet, or no-data as a length of 0. An answer longer than
the buffer breaks the channel's duty (R202) and faults. -/
def receive (s : State) : Except Fault State :=
  match s.outside.packets with
  | p :: rest =>
    if p.length ≤ Config.rxBufBytes then
      .ok (((s.withOutside { s.outside with packets := rest }).withReceived p).record (.receive p))
    else .error .receiveOverrun
  | [] =>
    let p := (Config.freeBytes s.outside.freeCount).take Config.rxBufBytes
    .ok (((s.withOutside { s.outside with
      freeCount := s.outside.freeCount + 1 }).withReceived p).record (.receive p))

/-! ## Failure entry (R186) -/

/-- The fatal failure kinds (R180). -/
inductive FailKind where
  | setup | handshake | transmission | idleTimeout
deriving DecidableEq, Repr

/-- The value of `result` that records a failure kind (R180, R78). -/
def FailKind.result : FailKind → Result
  | .setup => .failSetup
  | .handshake => .failHandshake
  | .transmission => .failTransmission
  | .idleTimeout => .failIdleTimeout

/-- The 3-bit code of a result (R78); codes 6 and 7 are unused. -/
def Result.code : Result → BitVec 3
  | .none => 0 | .success => 1 | .failSetup => 2
  | .failHandshake => 3 | .failTransmission => 4 | .failIdleTimeout => 5

/-- The effect of `CSM.ABORT` (R135): `tag <- CLOSED` and nothing else. -/
def abort (s : State) : State := s.withTag .closed

/-- `raise Fail(kind)` (R186): `CSM.ABORT()`, `result <- kind`, `phase <- PH_DONE`, nothing else. -/
def raiseFail (kind : FailKind) (s : State) : State :=
  ((abort s).withResult kind.result).withPhase .done

end Sys2Proof.Machine
end

