-- ==== Sys2Proof/Machine/Csm.lean ====
section
/-! DEFINITION. The tcp_state_machine (43_tcp_state_machine.md): the effects of its five events, its helper
`DESC`, and the events as instructions with their preconditions (R141). -/

namespace Sys2Proof.Machine

/-- The effect of `CSM.OPEN` (R131). `R` and `remote_seq` are not written. -/
def csmOpen (port : Word16) (iss : Word32) (rport : Word16) (s : State) : State :=
  (s.withOpened port iss rport).withTag .synSent

/-- The effect of `CSM.SYNACK` (R132). The segment's payload and its other flags are not looked at. -/
def csmSynAck (seg : TcpSegment) (s : State) : State :=
  (s.withPeerSeq seg.seq).withTag .established

/-- The effect of `CSM.SEGMENT` (R133): the payload is appended first, then the FIN is acted on. -/
def csmSegment (seg : TcpSegment) (s : State) : State :=
  if finSet seg.flags then (s.withSegment seg.seq seg.payload).withTag .finWait
  else s.withSegment seg.seq seg.payload

/-- The effect of `CSM.CLOSE` (R134). -/
def csmClose (s : State) : State := s.withTag .closed

/-- A packet to send, before it is built (00_scope.md glossary, R136). -/
structure Desc where
  seq     : Word32
  ack     : Word32
  flags   : BitVec 6
  payload : Bytes
deriving DecidableEq, Repr

/-- The kinds of packet the block sends (R136). -/
inductive DescKind where
  | syn | ack | req
deriving DecidableEq, Repr

/-- `DESC(kind)`, read-only on the registers (R136). -/
def descOf (kind : DescKind) (s : State) : Desc :=
  match kind with
  | .syn => ⟨s.localSeq, 0, builtSyn, []⟩
  | .ack => ⟨s.localSeq, succ32 s.remoteSeq, builtAck, []⟩
  | .req => ⟨s.localSeq, succ32 s.remoteSeq, builtPshAck, s.req⟩

/-- CSM.OPEN (R131): precondition `tag = CLOSED` and `phase = PH_IDLE`. -/
def execCsmOpen (port : Word16) (iss : Word32) (rport : Word16) (s : State) :
    Host.Outcome State Fault Refusal :=
  if s.tag = .closed ∧ s.phase = .idle then .next (csmOpen port iss rport s)
  else .refused .outsidePrecondition

/-- CSM.SYNACK (R132): precondition `tag = SYN_SENT`. -/
def execCsmSynAck (seg : TcpSegment) (s : State) : Host.Outcome State Fault Refusal :=
  if s.tag = .synSent then .next (csmSynAck seg s) else .refused .outsidePrecondition

/-- CSM.SEGMENT (R133): precondition `tag = ESTABLISHED`; its result is whether FIN was set. -/
def execCsmSegment (seg : TcpSegment) (s : State) : Host.Outcome State Fault Refusal :=
  if s.tag = .established then .next ((csmSegment seg s).withAnswer (.flag (finSet seg.flags)))
  else .refused .outsidePrecondition

/-- CSM.CLOSE (R134): precondition `tag = FIN_WAIT`. -/
def execCsmClose (s : State) : Host.Outcome State Fault Refusal :=
  if s.tag = .finWait then .next (csmClose s) else .refused .outsidePrecondition

/-- CSM.ABORT (R135): no precondition. -/
def execCsmAbort (s : State) : Host.Outcome State Fault Refusal := .next (abort s)

end Sys2Proof.Machine
end

