-- ==== Sys2Proof/Machine/Checksum.lean ====
section
/-! DEFINITION. The checksum unit (40_checksum_engine.md). -/

namespace Sys2Proof.Machine

/-- One fold: the bits of the sum above bit 15 are added back into the low 16 bits (R91). -/
def fold (sum : Word32) : Word32 :=
  if sum.extractLsb' 16 16 ≠ 0 then
    (sum.extractLsb' 0 16).setWidth 32 + (sum.extractLsb' 16 16).setWidth 32
  else sum

/-- One addition of a word to the running sum, and its fold (R91). -/
def addWord (sum : Word32) (w : Word16) : Word32 := fold (sum + w.setWidth 32)

/-- The loop of R91: big-endian words, and the last byte of an odd length as the high byte of a word
whose low byte is zero. -/
def csumLoop : Bytes → Word32 → Word32
  | hi :: lo :: rest, sum => csumLoop rest (addWord sum (word16Of hi lo))
  | [last], sum => addWord sum (word16Of last 0)
  | [], sum => sum

/-- `CSUM(B)` (R91): the one's complement of the low 16 bits after the final fold. -/
def csum (B : Bytes) : Word16 := (~~~ fold (csumLoop B 0)).extractLsb' 0 16

/-- CSUM (R91): no flags, no exceptions, total. -/
def execCsum (B : Bytes) (s : State) : Host.Outcome State Fault Refusal :=
  .next (s.withAnswer (.word (csum B)))

end Sys2Proof.Machine
end

