-- ==== Sys2Proof/Machine/Ipv4.lean ====
section
/-! DEFINITION. The ipv4_header_builder (41_ipv4_header_builder.md), with the layout of
30_encoding.md rule R61. -/

namespace Sys2Proof.Machine

/-- IPv4 header byte 0 as built: version 4 in bits 7..4, IHL 5 in bits 3..0 (R61). -/
def ipVersionIhl : Byte := nibbles 4 5

/-- `IPH.BUILD` (R101), field by field in the order of R61's table: version/IHL, type of service, total
length, identification, flags/fragment offset, time to live, protocol, checksum zero, source,
destination. -/
def iphBuild (src dst : Addr) (payloadLength : Nat) (ident : Word16) : Bytes :=
  [ipVersionIhl, 0x00] ++ be16 (BitVec.ofNat 16 (20 + payloadLength)) ++ be16 ident ++ be16 0 ++
    [Config.ttl, Config.protoTcp] ++ be16 0 ++ src.bytes ++ dst.bytes

/-- Offset of the header checksum field (R61). -/
def ipChecksumOffset : Nat := 10

/-- `IPH.FIN` (R103): zero the field, sum the 20 bytes, write the sum back big-endian. -/
def iphFin (H : Bytes) : Bytes :=
  write16 (write16 H ipChecksumOffset 0) ipChecksumOffset (csum (write16 H ipChecksumOffset 0))

/-- IPH.BUILD (R101); not defined, so refused, above a payload length of 65515 (R102). -/
def execIphBuild (src dst : Addr) (payloadLength : Nat) (ident : Word16) (s : State) :
    Host.Outcome State Fault Refusal :=
  if payloadLength ≤ Config.segMax then
    .next (s.withAnswer (.buffer (iphBuild src dst payloadLength ident)))
  else .refused .operandOutOfRange

/-- IPH.FIN (R103); its operand is a 20-byte buffer, anything else is refused. -/
def execIphFin (H : Bytes) (s : State) : Host.Outcome State Fault Refusal :=
  if H.length = 20 then .next (s.withAnswer (.buffer (iphFin H)))
  else .refused .operandOutOfRange

end Sys2Proof.Machine
end

