-- ==== Sys2Proof/Machine/Tcp.lean ====
section
/-! DEFINITION. The tcp_segment_builder (42_tcp_segment_builder.md), with the layouts of 30_encoding.md
rules R64 and R68. -/

namespace Sys2Proof.Machine

/-- TCP header byte 12 as built: data offset 5 in bits 7..4, reserved 0 (R64, R66). -/
def tcpDataOffset : Byte := nibbles 5 0

/-- `TCP.BUILD` (R111), field by field in the order of R64's table: ports, sequence and acknowledgment
numbers, data offset, flag byte, window, checksum zero, urgent pointer, payload. -/
def tcpBuild (sourcePort destPort : Word16) (seq ack : Word32) (flags : BitVec 6) (payload : Bytes) :
    Bytes :=
  be16 sourcePort ++ be16 destPort ++ be32 seq ++ be32 ack ++ [tcpDataOffset, flagByteOf flags] ++
    be16 Config.window ++ be16 0 ++ be16 0 ++ payload

/-- Offset of the TCP checksum field (R64). -/
def tcpChecksumOffset : Nat := 16

/-- The 12-byte pseudo-header of a segment of `len` bytes (R68, R113). -/
def pseudoHeader (src dst : Addr) (len : Nat) : Bytes :=
  src.bytes ++ dst.bytes ++ [0x00, Config.protoTcp] ++ be16 (BitVec.ofNat 16 len)

/-- `TCP.FIN` (R113): zero the field, sum the pseudo-header and the segment, write the sum back. -/
def tcpFin (G : Bytes) (src dst : Addr) : Bytes :=
  write16 (write16 G tcpChecksumOffset 0) tcpChecksumOffset
    (csum (pseudoHeader src dst G.length ++ write16 G tcpChecksumOffset 0))

/-- The fields of `TCP.PARSE`'s result, read at their offsets once the bounds hold (R116, R118): `t` is
the offset of the TCP header, `doff` its data offset. -/
def parseFields (raw : Bytes) (t : Nat) (doff : BitVec 4) : Option TcpSegment := do
  let srcAddr ← readAddr raw 12
  let dstAddr ← readAddr raw 16
  let sport ← read16 raw t
  let dport ← read16 raw (t + 2)
  let seq ← read32 raw (t + 4)
  let ack ← read32 raw (t + 8)
  let flagByte ← readByte raw (t + 13)
  some { srcAddr, dstAddr, sport, dport, seq, ack, doff,
         flags := flagsOfByte flagByte, payload := raw.drop (t + doff.toNat * 4) }

/-- `TCP.PARSE` (R117, R119); `none` is `null`. The tests stand in the order of R117. What R120 lists is
not checked. -/
def tcpParse (raw : Bytes) : Option TcpSegment :=
  if raw.length < Config.minParseLen then none
  else do
    let ihl := (lowNibble (← readByte raw 0)).toNat
    if ihl < 5 then none
    else if raw.length < ihl * 4 + 20 then none
    else do
      let doff := highNibble (← readByte raw (ihl * 4 + 12))
      if doff.toNat < 5 then none
      else if raw.length < ihl * 4 + doff.toNat * 4 then none
      else parseFields raw (ihl * 4) doff

/-- TCP.BUILD (R111); not defined, so refused, above a payload of 65495 bytes (R112). -/
def execTcpBuild (sourcePort destPort : Word16) (seq ack : Word32) (flags : BitVec 6)
    (payload : Bytes) (s : State) : Host.Outcome State Fault Refusal :=
  if payload.length ≤ Config.reqMax then
    .next (s.withAnswer (.buffer (tcpBuild sourcePort destPort seq ack flags payload)))
  else .refused .operandOutOfRange

/-- TCP.FIN (R113); its operand is a segment of 20 to 65515 bytes, anything else is refused. -/
def execTcpFin (G : Bytes) (src dst : Addr) (s : State) : Host.Outcome State Fault Refusal :=
  if 20 ≤ G.length ∧ G.length ≤ Config.segMax then .next (s.withAnswer (.buffer (tcpFin G src dst)))
  else .refused .operandOutOfRange

/-- TCP.PARSE (R117): total on every buffer; `null` is a result, not a failure (R183). -/
def execTcpParse (raw : Bytes) (s : State) : Host.Outcome State Fault Refusal :=
  .next (s.withAnswer (.segment (tcpParse raw)))

end Sys2Proof.Machine
end

