-- ==== Sys2Proof/Machine/Orchestrator.lean ====
section
/-! DEFINITION. The packet_orchestrator (44_packet_orchestrator.md) and `RESET` (70_reset_and_hazards.md):
the helpers `PKT` and `MATCH`, `START`, the eight phase steps, and `STEP`, which performs the one that
`phase` selects. -/

namespace Sys2Proof.Machine

/-! ## The helpers -/

/-- The packet of a descriptor for a given identification (R152): the segment first, because the header
needs its length; then `H ++ G` (R69). -/
def packetOf (d : Desc) (ident : Word16) (s : State) : Bytes :=
  let G := tcpFin (tcpBuild s.localPort s.remotePort d.seq d.ack d.flags d.payload)
    s.localAddr s.remoteAddr
  iphFin (iphBuild s.localAddr s.remoteAddr G.length ident) ++ G

/-- `PKT(desc)` (R152): one draw for the identification, then the packet. -/
def pkt (d : Desc) (s : State) : Bytes × State :=
  let r := draw16 s
  (packetOf d r.1 s, r.2)

/-- The address and port tests of `MATCH` (R153); with `FILTER_EN = 0` there are none (R169). -/
def peerMatch (seg : TcpSegment) (s : State) : Bool :=
  !s.params.filterEn ||
    (seg.srcAddr == s.remoteAddr && seg.sport == s.remotePort && seg.dport == s.localPort)

/-- `MATCH(seg)` (R153). It is defined in the two waiting phases only, and called in no other. -/
def matchSeg (seg : TcpSegment) (s : State) : Bool :=
  match s.phase with
  | .waitSynAck => peerMatch seg s && synAckSet seg.flags && seg.ack == succ32 s.S
  | .recv => peerMatch seg s
  | _ => false

/-- R195's test: the idle interval has passed; strictly longer (C11). -/
def idleExpired (t : Nat) (s : State) : Bool :=
  decide (s.params.idleTimeoutTicks < tickSub t s.lastActivity)

/-- R194's test: the handshake deadline has passed; never with `INF`. -/
def handshakeExpired (t : Nat) (s : State) : Bool :=
  match s.params.handshakeTimeoutTicks with
  | none => false
  | some h => decide (h < tickSub t s.synTime)

/-! ## START and RESET -/

/-- `START` once its preconditions and `chan_ready` hold (R150): the operands are held, the port and `S`
drawn in this order (R151), the connection opened. -/
def startTransfer (laddr raddr : Addr) (rport : Word16) (request : Bytes) (s : State) : State :=
  let p := draw16 (s.withTransfer laddr raddr request)
  let i := draw32 p.2
  (csmOpen p.1 i.1 rport i.2).withPhase .sendSyn

/-- START (R150, R170): refused outside `PH_IDLE` and for a request longer than `REQ_MAX`; the setup
failure comes before any draw (R190 a); `CSM.OPEN` needs `tag = CLOSED` (R131, R141). -/
def execStart (laddr raddr : Addr) (rport : Word16) (request : Bytes) (chanReady : Bool) (s : State) :
    Host.Outcome State Fault Refusal :=
  if s.phase ≠ .idle then .refused .outsidePrecondition
  else if Config.reqMax < request.length then .refused .requestTooLong
  else if chanReady = false then .next (raiseFail .setup s)
  else if s.tag ≠ .closed then .refused .outsidePrecondition
  else .next (startTransfer laddr raddr rport request s)

/-- The effect of `RESET` (R210): `tag`, `phase`, `result`, `resp` at R33's values, every other register
and buffer a free value (assumption log 9); the parameters are not touched (R212) and no collaborator is
called. -/
def resetBlock (s : State) : State :=
  let n := s.outside.freeCount
  { tag := .closed
    localPort := Config.free16 n
    remotePort := Config.free16 (n + 1)
    S := Config.free32 n
    R := Config.free32 (n + 1)
    localSeq := Config.free32 (n + 2)
    remoteSeq := Config.free32 (n + 3)
    phase := .idle
    result := .none
    localAddr := addrOfWord32 (Config.free32 (n + 4))
    remoteAddr := addrOfWord32 (Config.free32 (n + 5))
    lastActivity := Config.freeNat n
    synTime := Config.freeNat (n + 1)
    req := (Config.freeBytes n).take Config.reqMax
    resp := []
    rxbuf := Memory.writeBytes [] 0 ((Config.freeBytes (n + 1)).take Config.rxBufBytes)
    rxLen := Config.freeNat (n + 2) % (Config.rxBufBytes + 1)
    params := s.params
    outside := { s.outside with freeCount := n + 6 } }

/-- RESET (R210): no precondition. -/
def execReset (s : State) : Host.Outcome State Fault Refusal := .next (resetBlock s)

/-! ## The phase steps

A phase step is performed in the phase, and with the tag, that its rule names; elsewhere it has no
meaning (R141, R162; assumption log 13). -/

/-- The phase and the tag of a phase step's rule (R154 to R159). -/
def atPhase (ph : Phase) (s : State) : Bool := s.phase == ph && s.tag == ph.tag

/-- One sending step (R154, R156, R157, R159): build the packet, hand it to `send`, and either fail or go
on with `onOk`. -/
def sendPacket (kind : DescKind) (onOk : State → State) (s : State) : State :=
  let k := pkt (descOf kind s) s
  let st := send s.remoteAddr k.1 k.2
  if statusIsError st.1 then raiseFail .transmission st.2 else onOk st.2

/-- What `STEP.SEND_SYN` does once the SYN is sent (R154). -/
def afterSyn (s : State) : State :=
  let t := now s
  ((t.2.withLastActivity t.1).withSynTime t.1).withPhase .waitSynAck

/-- What `STEP.SEND_FINACK` does once the final ACK is sent (R159). -/
def afterFinAck (s : State) : State := ((csmClose s).withResult .success).withPhase .done

/-- A packet that `PH_WAIT_SYNACK` does not accept (R155): only the deadline is looked at. -/
def discardInWait (t : Nat) (s : State) : State :=
  if handshakeExpired t s then raiseFail .handshake s else s

/-- A packet delivered in `PH_WAIT_SYNACK` (R155). -/
def deliverInWait (t : Nat) (s : State) : State :=
  match tcpParse s.received with
  | some seg => if matchSeg seg s then (csmSynAck seg s).withPhase .sendAck else discardInWait t s
  | none => discardInWait t s

/-- One pass of the first loop after `receive` returned (R155). -/
def pollInWait (s : State) : State :=
  let t := now s
  if t.2.rxLen = 0 then
    if idleExpired t.1 t.2 || handshakeExpired t.1 t.2 then raiseFail .handshake t.2 else t.2
  else deliverInWait t.1 (t.2.withLastActivity t.1)

/-- A packet delivered in `PH_RECV` (R158). -/
def deliverInRecv (s : State) : State :=
  match tcpParse s.received with
  | some seg =>
    if matchSeg seg s then
      if finSet seg.flags then (csmSegment seg s).withPhase .sendFinAck else csmSegment seg s
    else s
  | none => s

/-- One pass of the second loop after `receive` returned (R158). -/
def pollInRecv (s : State) : State :=
  let t := now s
  if t.2.rxLen = 0 then
    if idleExpired t.1 t.2 then raiseFail .idleTimeout t.2 else t.2
  else deliverInRecv (t.2.withLastActivity t.1)

/-- A waiting step: one `receive`, then the rest of the step on what it delivered. -/
def receiveThen (rest : State → State) (s : State) : Host.Outcome State Fault Refusal :=
  match receive s with
  | .ok s' => .next (rest s')
  | .error f => .fault f

/-- The step of `PH_IDLE` (R163): nothing happens. -/
def runIdle (s : State) : Host.Outcome State Fault Refusal :=
  if s.phase = .idle then .next s else .refused .outsidePrecondition

/-- The step of `PH_SEND_SYN` (R154). -/
def runSendSyn (s : State) : Host.Outcome State Fault Refusal :=
  if atPhase .sendSyn s then .next (sendPacket .syn afterSyn s) else .refused .outsidePrecondition

/-- The step of `PH_WAIT_SYNACK` (R155). -/
def runWaitSynAck (s : State) : Host.Outcome State Fault Refusal :=
  if atPhase .waitSynAck s then receiveThen pollInWait s else .refused .outsidePrecondition

/-- The step of `PH_SEND_ACK` (R156). -/
def runSendAck (s : State) : Host.Outcome State Fault Refusal :=
  if atPhase .sendAck s then .next (sendPacket .ack (fun t => t.withPhase .sendReq) s)
  else .refused .outsidePrecondition

/-- The step of `PH_SEND_REQ` (R157); `TCP.BUILD` is not defined for a request above `REQ_MAX` (R112). -/
def runSendReq (s : State) : Host.Outcome State Fault Refusal :=
  if atPhase .sendReq s then
    if s.req.length ≤ Config.reqMax then .next (sendPacket .req (fun t => t.withPhase .recv) s)
    else .refused .operandOutOfRange
  else .refused .outsidePrecondition

/-- The step of `PH_RECV` (R158). -/
def runRecv (s : State) : Host.Outcome State Fault Refusal :=
  if atPhase .recv s then receiveThen pollInRecv s else .refused .outsidePrecondition

/-- The step of `PH_SEND_FINACK` (R159). -/
def runSendFinAck (s : State) : Host.Outcome State Fault Refusal :=
  if atPhase .sendFinAck s then .next (sendPacket .ack afterFinAck s)
  else .refused .outsidePrecondition

/-- The step of `PH_DONE` (R160): nothing happens. -/
def runDone (s : State) : Host.Outcome State Fault Refusal :=
  if s.phase = .done then .next s else .refused .outsidePrecondition

/-- STEP (R162): the phase step that `phase` selects. -/
def execStep (s : State) : Host.Outcome State Fault Refusal :=
  match s.phase with
  | .idle => runIdle s
  | .sendSyn => runSendSyn s
  | .waitSynAck => runWaitSynAck s
  | .sendAck => runSendAck s
  | .sendReq => runSendReq s
  | .recv => runRecv s
  | .sendFinAck => runSendFinAck s
  | .done => runDone s

/-- STEP.IDLE (R163). -/
def execStepIdle (s : State) : Host.Outcome State Fault Refusal := runIdle s
/-- STEP.SEND_SYN (R154). -/
def execStepSendSyn (s : State) : Host.Outcome State Fault Refusal := runSendSyn s
/-- STEP.WAIT_SYNACK (R155). -/
def execStepWaitSynAck (s : State) : Host.Outcome State Fault Refusal := runWaitSynAck s
/-- STEP.SEND_ACK (R156). -/
def execStepSendAck (s : State) : Host.Outcome State Fault Refusal := runSendAck s
/-- STEP.SEND_REQ (R157). -/
def execStepSendReq (s : State) : Host.Outcome State Fault Refusal := runSendReq s
/-- STEP.RECV (R158). -/
def execStepRecv (s : State) : Host.Outcome State Fault Refusal := runRecv s
/-- STEP.SEND_FINACK (R159). -/
def execStepSendFinAck (s : State) : Host.Outcome State Fault Refusal := runSendFinAck s
/-- STEP.DONE (R160). -/
def execStepDone (s : State) : Host.Outcome State Fault Refusal := runDone s

end Sys2Proof.Machine
end

