-- ==== Sys2Proof/Machine/Wire.lean ====
section
/-! DEFINITION. The wire patterns of the opcode table as operations: the packet shorthands, pseudo-operations
that expand to `PKT` (R82, R152); the two tests on an inbound flag byte (R72); the two fixed bytes of the
built headers (R61, R64). Each answers its value; a shorthand uses up one draw (R151) and sends nothing. -/

namespace Sys2Proof.Machine

/-- A shorthand: the packet `PKT` builds from the descriptor (R82). -/
def answerPacket (d : Desc) (s : State) : State :=
  let k := pkt d s
  k.2.withAnswer (.buffer k.1)

/-- The descriptor of R82's row `SYN(seq=S, ack=0)`: the row reads `S` itself, in every state. (`DESC(SYN)`,
which the step of `PH_SEND_SYN` uses, reads `local_seq`, R136; in that phase of a run the two are equal, R17.) -/
def synShorthand (s : State) : Desc := ⟨s.S, 0, builtSyn, []⟩

/-- `SYN(seq=S, ack=0)` (R82). -/
def execPktSyn (s : State) : Host.Outcome State Fault Refusal := .next (answerPacket (synShorthand s) s)

/-- `ACK(seq=S+1, ack=R+1)` (R82). -/
def execPktAck (s : State) : Host.Outcome State Fault Refusal := .next (answerPacket (descOf .ack s) s)

/-- `PSH+ACK(seq=S+1, ack=R+1)` carrying the request (R82); not defined for a request above `REQ_MAX`
(R112). -/
def execPktReq (s : State) : Host.Outcome State Fault Refusal :=
  if s.req.length ≤ Config.reqMax then .next (answerPacket (descOf .req s) s)
  else .refused .operandOutOfRange

/-- `ACK(seq=S+1, ack=remoteSeq+1)` acknowledging the FIN (R82). -/
def execPktFinalAck (s : State) : Host.Outcome State Fault Refusal :=
  .next (answerPacket (descOf .ack s) s)

/-- The test "SYN and ACK flags set" on a received flag byte (R72); bits 7..6 are ignored (R70). -/
def execInSynAckTest (flagByte : Byte) (s : State) : Host.Outcome State Fault Refusal :=
  .next (s.withAnswer (.flag (synAckSet (flagsOfByte flagByte))))

/-- The test "FIN set" on a received flag byte (R72). -/
def execInFinTest (flagByte : Byte) (s : State) : Host.Outcome State Fault Refusal :=
  .next (s.withAnswer (.flag (finSet (flagsOfByte flagByte))))

/-- IPv4 header byte 0 as built (R61). -/
def execIpByte0 (s : State) : Host.Outcome State Fault Refusal :=
  .next (s.withAnswer (.byte ipVersionIhl))

/-- TCP header byte 12 as built (R64, R66). -/
def execTcpByte12 (s : State) : Host.Outcome State Fault Refusal :=
  .next (s.withAnswer (.byte tcpDataOffset))

end Sys2Proof.Machine
end

