-- ==== Sys2Proof/Machine/Dispatch.lean ====
section
/-! DEFINITION. One arm per constructor of Instr, each one direct call of its meaning. -/

namespace Sys2Proof.Machine

def exec (i : Instr) (s : State) : Host.Outcome State Fault Refusal :=
  match i with
  | .csum B => Sys2Proof.Machine.execCsum B s
  | .iphBuild src dst payloadLength ident => Sys2Proof.Machine.execIphBuild src dst payloadLength ident s
  | .iphFin H => Sys2Proof.Machine.execIphFin H s
  | .tcpBuild sourcePort destPort seq ack flags payload => Sys2Proof.Machine.execTcpBuild sourcePort destPort seq ack flags payload s
  | .tcpFin G src dst => Sys2Proof.Machine.execTcpFin G src dst s
  | .tcpParse raw => Sys2Proof.Machine.execTcpParse raw s
  | .csmOpen port iss rport => Sys2Proof.Machine.execCsmOpen port iss rport s
  | .csmSynAck seg => Sys2Proof.Machine.execCsmSynAck seg s
  | .csmSegment seg => Sys2Proof.Machine.execCsmSegment seg s
  | .csmClose => Sys2Proof.Machine.execCsmClose s
  | .csmAbort => Sys2Proof.Machine.execCsmAbort s
  | .start laddr raddr rport request chanReady => Sys2Proof.Machine.execStart laddr raddr rport request chanReady s
  | .step => Sys2Proof.Machine.execStep s
  | .reset => Sys2Proof.Machine.execReset s
  | .stepIdle => Sys2Proof.Machine.execStepIdle s
  | .stepSendSyn => Sys2Proof.Machine.execStepSendSyn s
  | .stepWaitSynAck => Sys2Proof.Machine.execStepWaitSynAck s
  | .stepSendAck => Sys2Proof.Machine.execStepSendAck s
  | .stepSendReq => Sys2Proof.Machine.execStepSendReq s
  | .stepRecv => Sys2Proof.Machine.execStepRecv s
  | .stepSendFinAck => Sys2Proof.Machine.execStepSendFinAck s
  | .stepDone => Sys2Proof.Machine.execStepDone s
  | .pktSyn => Sys2Proof.Machine.execPktSyn s
  | .pktAck => Sys2Proof.Machine.execPktAck s
  | .pktReq => Sys2Proof.Machine.execPktReq s
  | .pktFinalAck => Sys2Proof.Machine.execPktFinalAck s
  | .inSynAckTest flagByte => Sys2Proof.Machine.execInSynAckTest flagByte s
  | .inFinTest flagByte => Sys2Proof.Machine.execInFinTest flagByte s
  | .ipByte0 => Sys2Proof.Machine.execIpByte0 s
  | .tcpByte12 => Sys2Proof.Machine.execTcpByte12 s

end Sys2Proof.Machine
end

