-- ==== Sys2Proof/WellFormed.lean ====
section
/-! DEFINITION. Which instructions are well formed: the operand ranges of the table's rows (R91, R101,
R102, R103, R111, R112, R113, R117, R150, R170) and, for the inbound tests, the table's pattern (R72). -/

namespace Sys2Proof

/-- The operand checks of an instruction; an instruction without one is well formed. -/
def Instr.wellFormed : Instr → Bool
  | .csum _ => true
  | .iphBuild _ _ payloadLength _ => payloadLength ≤ Config.segMax
  | .iphFin H => H.length == 20
  | .tcpBuild _ _ _ _ _ payload => payload.length ≤ Config.reqMax
  | .tcpFin G _ _ => 20 ≤ G.length && G.length ≤ Config.segMax
  | .tcpParse raw => raw.length ≤ Config.rxBufBytes
  | .csmOpen _ _ _ => true
  | .csmSynAck _ => true
  | .csmSegment _ => true
  | .csmClose => true
  | .csmAbort => true
  | .start _ _ _ request _ => request.length ≤ Config.reqMax
  | .step => true
  | .reset => true
  | .stepIdle => true
  | .stepSendSyn => true
  | .stepWaitSynAck => true
  | .stepSendAck => true
  | .stepSendReq => true
  | .stepRecv => true
  | .stepSendFinAck => true
  | .stepDone => true
  | .pktSyn => true
  | .pktAck => true
  | .pktReq => true
  | .pktFinalAck => true
  | .inSynAckTest f => matchesSynAck f
  | .inFinTest f => matchesFin f
  | .ipByte0 => true
  | .tcpByte12 => true

end Sys2Proof
end

