-- ==== Sys2Proof/Decode.lean ====
section
/-! DEFINITION. The decoder of commands, total on any bytes and rejecting by name, and after it the
encoder. The codes are R79's; the patterns of the flag byte and of the two wire bytes are R70, R72, R82,
R61 and R64. How the operands lie behind a code is the model's own (assumption log 3): in the order of the
operation's signature, fixed-size operands first, big-endian (R42, R73), the one variable-length operand
last and running to the end of the command. -/

namespace Sys2Proof

/-- One byte off the front of a command. -/
def take8 : Bytes → Except DecodeError (Byte × Bytes)
  | a :: r => .ok (a, r)
  | [] => .error .operandLength

/-- A 16-bit operand off the front of a command (R42). -/
def take16 : Bytes → Except DecodeError (Word16 × Bytes)
  | a :: b :: r => .ok (word16Of a b, r)
  | _ => .error .operandLength

/-- A 32-bit operand off the front of a command (R42). -/
def take32 : Bytes → Except DecodeError (Word32 × Bytes)
  | a :: b :: c :: d :: r => .ok (word32Of a b c d, r)
  | _ => .error .operandLength

/-- An address operand off the front of a command (R44, R73). -/
def takeAddr : Bytes → Except DecodeError (Addr × Bytes)
  | a :: b :: c :: d :: r => .ok (⟨a, b, c, d⟩, r)
  | _ => .error .operandLength

/-- A 6-bit flag set in a byte whose bits 7..6 are zero (R70). -/
def takeFlags (bs : Bytes) : Except DecodeError (BitVec 6 × Bytes) := do
  let (b, r) ← take8 bs
  if flagByteOf (flagsOfByte b) = b then .ok (flagsOfByte b, r) else .error .operandBits

/-- A 4-bit value in the low nibble of a byte whose high nibble is zero. -/
def takeNibble (bs : Bytes) : Except DecodeError (BitVec 4 × Bytes) := do
  let (b, r) ← take8 bs
  if highNibble b = 0 then .ok (lowNibble b, r) else .error .operandBits

/-- A boolean in a byte: 0 or 1. -/
def takeBool (bs : Bytes) : Except DecodeError (Bool × Bytes) := do
  let (b, r) ← take8 bs
  if b = 0 then .ok (false, r) else if b = 1 then .ok (true, r) else .error .operandBits

/-- Nothing may stand behind the last operand. -/
def atEnd (i : Instr) : Bytes → Except DecodeError Instr
  | [] => .ok i
  | _ :: _ => .error .operandLength

/-- Operands of `IPH.BUILD` (R101). -/
def decodeIphBuild (bs : Bytes) : Except DecodeError Instr := do
  let (src, r) ← takeAddr bs
  let (dst, r) ← takeAddr r
  let (len, r) ← take16 r
  let (ident, r) ← take16 r
  atEnd (.iphBuild src dst len.toNat ident) r

/-- Operand of `IPH.FIN` (R103): exactly 20 bytes. -/
def decodeIphFin (bs : Bytes) : Except DecodeError Instr :=
  if bs.length = 20 then .ok (.iphFin bs) else .error .operandLength

/-- Operands of `TCP.BUILD` (R111). -/
def decodeTcpBuild (bs : Bytes) : Except DecodeError Instr := do
  let (sp, r) ← take16 bs
  let (dp, r) ← take16 r
  let (seq, r) ← take32 r
  let (ack, r) ← take32 r
  let (flags, payload) ← takeFlags r
  .ok (.tcpBuild sp dp seq ack flags payload)

/-- Operands of `TCP.FIN` (R113). -/
def decodeTcpFin (bs : Bytes) : Except DecodeError Instr := do
  let (src, r) ← takeAddr bs
  let (dst, G) ← takeAddr r
  .ok (.tcpFin G src dst)

/-- Operands of `CSM.OPEN` (R131). -/
def decodeCsmOpen (bs : Bytes) : Except DecodeError Instr := do
  let (port, r) ← take16 bs
  let (iss, r) ← take32 r
  let (rport, r) ← take16 r
  atEnd (.csmOpen port iss rport) r

/-- A `TCPSegment` operand (R116), field by field, the payload last. -/
def decodeSegment (bs : Bytes) : Except DecodeError TcpSegment := do
  let (srcAddr, r) ← takeAddr bs
  let (dstAddr, r) ← takeAddr r
  let (sport, r) ← take16 r
  let (dport, r) ← take16 r
  let (seq, r) ← take32 r
  let (ack, r) ← take32 r
  let (doff, r) ← takeNibble r
  let (flags, payload) ← takeFlags r
  .ok { srcAddr, dstAddr, sport, dport, seq, ack, doff, flags, payload }

/-- Operands of `START` (R150). -/
def decodeStart (bs : Bytes) : Except DecodeError Instr := do
  let (laddr, r) ← takeAddr bs
  let (raddr, r) ← takeAddr r
  let (rport, r) ← take16 r
  let (chanReady, request) ← takeBool r
  .ok (.start laddr raddr rport request chanReady)

/-- The operation codes the caller may issue (R79, R80). -/
def isCallerCode (c : Byte) : Bool :=
  c == 0x10 || c == 0x20 || c == 0x21 || c == 0x30 || c == 0x31 || c == 0x32 ||
    c == 0x50 || c == 0x51 || c == 0x5F

/-- The operation codes of the `CSM.*` events (R79). -/
def isEventCode (c : Byte) : Bool :=
  c == 0x40 || c == 0x41 || c == 0x42 || c == 0x43 || c == 0x4F

/-- A command of the caller: R79's code and the operands. -/
def decodeCaller (code : Byte) (r : Bytes) : Except DecodeError Instr :=
  if code = 0x10 then .ok (.csum r)
  else if code = 0x20 then decodeIphBuild r
  else if code = 0x21 then decodeIphFin r
  else if code = 0x30 then decodeTcpBuild r
  else if code = 0x31 then decodeTcpFin r
  else if code = 0x32 then .ok (.tcpParse r)
  else if code = 0x50 then decodeStart r
  else if code = 0x51 then atEnd .step r
  else if code = 0x5F then atEnd .reset r
  else if isEventCode code then .error (.notOfferedToCaller code)
  else .error (.unusedCode code)

/-- An event the orchestrator performs (R79, R130). -/
def decodeEvent (code : Byte) (r : Bytes) : Except DecodeError Instr :=
  if code = 0x40 then decodeCsmOpen r
  else if code = 0x41 then (decodeSegment r).map .csmSynAck
  else if code = 0x42 then (decodeSegment r).map .csmSegment
  else if code = 0x43 then atEnd .csmClose r
  else if code = 0x4F then atEnd .csmAbort r
  else .error (.unusedCode code)

/-- The phase step of a phase (R162). -/
def stepOfPhase : Phase → Instr
  | .idle => .stepIdle
  | .sendSyn => .stepSendSyn
  | .waitSynAck => .stepWaitSynAck
  | .sendAck => .stepSendAck
  | .sendReq => .stepSendReq
  | .recv => .stepRecv
  | .sendFinAck => .stepSendFinAck
  | .done => .stepDone

/-- The STEP code with the phase code behind it: bits 10..3 and 2..0 (R79). -/
def decodeSequencer (w : Word16) : Except DecodeError Instr :=
  if w.extractLsb' 3 13 = 0x51 then .ok (stepOfPhase (.ofCode (w.extractLsb' 0 3)))
  else .error .notThisPattern

/-- The flag byte of a packet built in a phase (R71, R82, R136). -/
def decodeBuilt (ph : Phase) (f : Byte) : Except DecodeError Instr :=
  match ph with
  | .sendSyn => if f = 0x02 then .ok .pktSyn else .error .notThisPattern
  | .sendAck => if f = 0x10 then .ok .pktAck else .error .notThisPattern
  | .sendReq => if f = 0x18 then .ok .pktReq else .error .notThisPattern
  | .sendFinAck => if f = 0x10 then .ok .pktFinalAck else .error .notThisPattern
  | _ => .error .noPatternHere

/-- The flag byte of a segment received in a phase (R72). -/
def decodeInbound (ph : Phase) (f : Byte) : Except DecodeError Instr :=
  match ph with
  | .waitSynAck => if matchesSynAck f then .ok (.inSynAckTest f) else .error .notThisPattern
  | .recv => if matchesFin f then .ok (.inFinTest f) else .error .notThisPattern
  | _ => .error .noPatternHere

/-- The decoder: the instruction that the bytes of a command stand for at their place. -/
def decode : Place → Bytes → Except DecodeError Instr
  | .caller, code :: r => decodeCaller code r
  | .event, code :: r => decodeEvent code r
  | .sequencer, [hi, lo] => decodeSequencer (word16Of hi lo)
  | .built ph, [f] => decodeBuilt ph f
  | .inbound ph, [f] => decodeInbound ph f
  | .ipHeader0, [b] => if b = 0x45 then .ok .ipByte0 else .error .notThisPattern
  | .tcpHeader12, [b] => if b = 0x50 then .ok .tcpByte12 else .error .notThisPattern
  | _, _ => .error .operandLength

/-! ## The encoder, from the same tables -/

/-- A boolean operand as a byte. -/
def boolByte (b : Bool) : Byte := if b then 1 else 0

/-- A `TCPSegment` operand as bytes, in the order of R116. -/
def segmentBytes (g : TcpSegment) : Bytes :=
  g.srcAddr.bytes ++ g.dstAddr.bytes ++ be16 g.sport ++ be16 g.dport ++ be32 g.seq ++ be32 g.ack ++
    [nibbles 0 g.doff, flagByteOf g.flags] ++ g.payload

/-- The command of a phase step: 0x51 in bits 10..3, the phase code in bits 2..0 (R79). -/
def stepCommand (ph : Phase) : Command :=
  ⟨.sequencer, be16 ((0x51 : BitVec 13) ++ ph.code)⟩

/-- The command that stands for an instruction (R79, R82, R72, R61, R64). -/
def encode : Instr → Command
  | .csum B => ⟨.caller, 0x10 :: B⟩
  | .iphBuild src dst len ident =>
      ⟨.caller, 0x20 :: (src.bytes ++ dst.bytes ++ be16 (BitVec.ofNat 16 len) ++ be16 ident)⟩
  | .iphFin H => ⟨.caller, 0x21 :: H⟩
  | .tcpBuild sp dp seq ack flags payload =>
      ⟨.caller, 0x30 :: (be16 sp ++ be16 dp ++ be32 seq ++ be32 ack ++ [flagByteOf flags] ++ payload)⟩
  | .tcpFin G src dst => ⟨.caller, 0x31 :: (src.bytes ++ dst.bytes ++ G)⟩
  | .tcpParse raw => ⟨.caller, 0x32 :: raw⟩
  | .csmOpen port iss rport => ⟨.event, 0x40 :: (be16 port ++ be32 iss ++ be16 rport)⟩
  | .csmSynAck seg => ⟨.event, 0x41 :: segmentBytes seg⟩
  | .csmSegment seg => ⟨.event, 0x42 :: segmentBytes seg⟩
  | .csmClose => ⟨.event, [0x43]⟩
  | .csmAbort => ⟨.event, [0x4F]⟩
  | .start laddr raddr rport request chanReady =>
      ⟨.caller, 0x50 :: (laddr.bytes ++ raddr.bytes ++ be16 rport ++ [boolByte chanReady] ++ request)⟩
  | .step => ⟨.caller, [0x51]⟩
  | .reset => ⟨.caller, [0x5F]⟩
  | .stepIdle => stepCommand .idle
  | .stepSendSyn => stepCommand .sendSyn
  | .stepWaitSynAck => stepCommand .waitSynAck
  | .stepSendAck => stepCommand .sendAck
  | .stepSendReq => stepCommand .sendReq
  | .stepRecv => stepCommand .recv
  | .stepSendFinAck => stepCommand .sendFinAck
  | .stepDone => stepCommand .done
  | .pktSyn => ⟨.built .sendSyn, [0x02]⟩
  | .pktAck => ⟨.built .sendAck, [0x10]⟩
  | .pktReq => ⟨.built .sendReq, [0x18]⟩
  | .pktFinalAck => ⟨.built .sendFinAck, [0x10]⟩
  | .inSynAckTest f => ⟨.inbound .waitSynAck, [f]⟩
  | .inFinTest f => ⟨.inbound .recv, [f]⟩
  | .ipByte0 => ⟨.ipHeader0, [0x45]⟩
  | .tcpByte12 => ⟨.tcpHeader12, [0x50]⟩

/-! ## Words of the opcode table -/

/-- How many operand bytes of zero make the shortest well-formed operands of an operation code. -/
def operandZeros (c : Byte) : Nat :=
  if c = 0x20 then 12 else if c = 0x21 then 20 else if c = 0x30 then 13 else if c = 0x31 then 28
  else if c = 0x40 then 8 else if c = 0x41 then 22 else if c = 0x42 then 22
  else if c = 0x50 then 11 else 0

/-- The command a word of the table stands for, operands zero. A word of more than 8 bits is a PHASE row's.
One byte may be the word of several rows (0x10, 0x50): the operation codes come first, then the exact
patterns, then the masked ones (assumption log 4). -/
def tableCommand (nbits w : Nat) : Command :=
  if 8 < nbits then ⟨.sequencer, be16 (BitVec.ofNat 16 w)⟩
  else
    let b : Byte := BitVec.ofNat 8 w
    if isCallerCode b then ⟨.caller, b :: List.replicate (operandZeros b) 0⟩
    else if isEventCode b then ⟨.event, b :: List.replicate (operandZeros b) 0⟩
    else if b = 0x02 then ⟨.built .sendSyn, [b]⟩
    else if b = 0x18 then ⟨.built .sendReq, [b]⟩
    else if b = 0x45 then ⟨.ipHeader0, [b]⟩
    else if matchesSynAck b then ⟨.inbound .waitSynAck, [b]⟩
    else if matchesFin b then ⟨.inbound .recv, [b]⟩
    else ⟨.caller, [b]⟩

/-- The instruction the decoder reads from a table word, operands zero. -/
def decodeTableWord (nbits w : Nat) : Option Instr :=
  match decode (tableCommand nbits w).place (tableCommand nbits w).bytes with
  | .ok i => some i
  | .error _ => none

end Sys2Proof
end

