-- ==== Sys2Proof/Machine/Fetch.lean ====
section
/-! DEFINITION. How the next operation reaches the block. The block fetches nothing (R56): the caller issues
operations, and the sequencer steps on by itself when nothing is issued (R162; assumption log 1, log 2). -/

namespace Sys2Proof.Machine

/-- The next operation and the state once it is taken: the next issued command decoded, or `STEP` when no
command is waiting (R162: who issues the `STEP`s is immaterial). -/
def fetch (s : State) : Except Refusal (Instr × State) :=
  match s.outside.cmds with
  | [] => .ok (.step, s)
  | c :: cs =>
    match decode c.place c.bytes with
    | .ok i => .ok (i, s.withCmds cs)
    | .error e => .error (.undecodable e)

/-- The phase in which the block performs an operation of its own (R79's phase rows; R130, R131 to R134:
each event is part of one phase's step); none for an operation that any phase admits or that the caller
chooses freely. -/
def performedIn : Instr → Option Phase
  | .csum _ => none
  | .iphBuild _ _ _ _ => none
  | .iphFin _ => none
  | .tcpBuild _ _ _ _ _ _ => none
  | .tcpFin _ _ _ => none
  | .tcpParse _ => none
  | .csmOpen _ _ _ => some .idle
  | .csmSynAck _ => some .waitSynAck
  | .csmSegment _ => some .recv
  | .csmClose => some .sendFinAck
  | .csmAbort => none
  | .start _ _ _ _ _ => none
  | .step => none
  | .reset => none
  | .stepIdle => some .idle
  | .stepSendSyn => some .sendSyn
  | .stepWaitSynAck => some .waitSynAck
  | .stepSendAck => some .sendAck
  | .stepSendReq => some .sendReq
  | .stepRecv => some .recv
  | .stepSendFinAck => some .sendFinAck
  | .stepDone => some .done
  | .pktSyn => none
  | .pktAck => none
  | .pktReq => none
  | .pktFinalAck => none
  | .inSynAckTest _ => none
  | .inFinTest _ => none
  | .ipByte0 => none
  | .tcpByte12 => none

/-- The sequencer put where it performs the operation: the phase, and the tag that phase fixes (R34 c). -/
def putInPosition (i : Instr) (s : State) : State :=
  match performedIn i with
  | some ph => (s.withPhase ph).withTag ph.tag
  | none => s

/-- A command put first among the waiting ones, the sequencer where its operation is performed
(assumption log 5). -/
def placeCommand (c : Command) (s : State) : State :=
  match decode c.place c.bytes with
  | .ok i => (putInPosition i s).withCmds (c :: s.outside.cmds)
  | .error _ => s.withCmds (c :: s.outside.cmds)

end Sys2Proof.Machine
end

