-- ==== Sys2Proof/Machine/Step.lean ====
section
/-! DEFINITION. One step of the block: one operation (R7), the next issued command or the sequencer's own
`STEP`; and a table word placed so that the next step performs it. -/

namespace Sys2Proof.Machine

/-- One step: the next operation is taken and performed. -/
def step (s : State) : Host.Outcome State Fault Refusal :=
  match fetch s with
  | .ok r => exec r.1 r.2
  | .error e => .refused e

/-- The state with the operation of a table word, operands zero, as the next one to perform. -/
def State.withFetchWord (s : State) (nbits w : Nat) : State := placeCommand (tableCommand nbits w) s

end Sys2Proof.Machine
end

