-- ==== Sys2Proof/Safety.lean ====
section
/-! DEFINITION. What holds in every state a run can reach (10_state.md rule R34, with what the other rules
promise about the buffers, the clock and the duties of R202), and what a safe run is. -/

namespace Sys2Proof.Safety

open Sys2Proof.Machine

/-- The invariant of the block. -/
structure BlockInv (s : State) : Prop where
  /-- R34 (a) -/
  idleIsClean : s.phase = .idle → s.tag = .closed ∧ s.result = .none ∧ s.resp = []
  /-- R34 (b), first part; its second part is `phaseFixesTag` -/
  doneIffResult : s.phase = .done ↔ s.result ≠ .none
  /-- R34 (a), (b), (c): the phase fixes the tag -/
  phaseFixesTag : s.tag = s.phase.tag
  /-- R34 (d), in the phases a connection is up in, and after a success (R159) -/
  localSeqAfterHandshake :
    s.phase = .sendAck ∨ s.phase = .sendReq ∨ s.phase = .recv ∨ s.phase = .sendFinAck ∨
      s.result = .success → s.localSeq = succ32 s.S
  /-- R17, R136: `local_seq = S` until the handshake, so that `DESC(SYN)` is R82's `SYN(seq=S, ack=0)` -/
  localSeqBeforeHandshake : s.phase = .sendSyn ∨ s.phase = .waitSynAck → s.localSeq = s.S
  /-- R136: `remote_seq = R` until the first segment is accepted in `PH_RECV` -/
  remoteSeqIsR : s.phase = .sendAck ∨ s.phase = .sendReq → s.remoteSeq = s.R
  /-- R196: the times a rule subtracts are not later than `now` -/
  synTimeInPast : s.phase = .waitSynAck → s.synTime ≤ s.outside.clock
  /-- R196 -/
  lastActivityInPast :
    s.phase = .waitSynAck ∨ s.phase = .sendAck ∨ s.phase = .sendReq ∨ s.phase = .recv →
      s.lastActivity ≤ s.outside.clock
  /-- R24 -/
  requestFits : s.req.length ≤ Config.reqMax
  /-- R26, R40: the receive buffer in canonical form -/
  rxbufCanonical : Memory.wf s.rxbuf
  /-- R26, R46 -/
  rxbufInside : Memory.below s.rxbuf Config.rxBufBytes
  /-- R26 -/
  rxLenFits : s.rxLen ≤ Config.rxBufBytes
  /-- R202: the channel delivers at most `RX_BUF_BYTES` bytes -/
  channelDuty : ∀ p ∈ s.outside.packets, p.length ≤ Config.rxBufBytes
  /-- R192, R202: what is issued is issued by the caller, who performs no `CSM.*` event -/
  callerDuty : ∀ c ∈ s.outside.cmds, c.place = .caller

/-- A run that never ends in a fault. -/
def NeverFaults (s : State) : Prop := ∀ n f, core.run n s ≠ .fault f

end Sys2Proof.Safety
end

