-- ==== Sys2Proof/Certificates/Slice0/Obligations.lean ====
section
/-! DEFINITION. The statements for the provers. Each formalises rules of spec/ (its docstring names them); the
expected next state is written out field by field, so that a statement of a result is also the frame of
its instruction and says that the instruction completes. -/

namespace Sys2Proof.Claims

open Sys2Proof.Machine

/-- The state with nothing changed but the result returned to the caller. -/
def answered (s : State) (a : Answer) : State :=
  { s with outside := { s.outside with answer := a } }

/-- The sum, as a natural number, of the big-endian words of a buffer, the last one padded (R92 b's `T`). -/
def wordTotal : Bytes → Nat
  | hi :: lo :: rest => hi.toNat * 256 + lo.toNat + wordTotal rest
  | [last] => last.toNat * 256
  | [] => 0

/-- R92 (b)'s closed form of the checksum. -/
def closedForm (T : Nat) : Nat := if T = 0 then 0xFFFF else 0xFFFF - ((T - 1) % 0xFFFF + 1)

/-- A buffer with the two bytes at offset `k` zero. -/
def zeroedAt (B : Bytes) (k : Nat) : Bytes := B.take k ++ [0, 0] ++ B.drop (k + 2)

/-- `RESET` is the next command. -/
def resetIssued (s : State) : Prop := ∃ cs, s.outside.cmds = ⟨.caller, [0x5F]⟩ :: cs

/-- The state a failure leaves (R186), with the outside `o`. -/
def failed (s : State) (r : Result) (o : Outside) : State :=
  { s with tag := .closed, result := r, phase := .done, outside := o }

/-- What one `send` of the packet of `d` does to the outside (R152, R198): the identification `id` is drawn,
the packet handed over, the status `st` taken; `more` are the calls made after it. -/
structure SentOne (s : State) (d : Desc) (id : Word16) (st : Nat) (o : Outside) (more : List Call) :
    Prop where
  calls : o.trace = s.outside.trace ++
    [.draw16 id, .send s.remoteAddr (packetOf d id s) st] ++ more
  drawn : ∀ v vs, s.outside.draws16 = v :: vs → id = v ∧ o.draws16 = vs
  status : ∀ v vs, s.outside.statuses = v :: vs → st = v ∧ o.statuses = vs
  others : o.cmds = s.outside.cmds ∧ o.draws32 = s.outside.draws32 ∧ o.packets = s.outside.packets ∧
    o.answer = s.outside.answer

/-- The tick counter is as it was. -/
def sameTime (s : State) (o : Outside) : Prop :=
  o.ticks = s.outside.ticks ∧ o.clock = s.outside.clock

/-- The outside after a waiting step that received `p` and read the clock `d` ticks later. -/
def polled (s : State) (p : Bytes) (ps : List Bytes) (d : Nat) (ds : List Nat) : Outside :=
  { s.outside with
    packets := ps
    ticks := ds
    clock := s.outside.clock + d
    trace := s.outside.trace ++ [.receive p, .now (s.outside.clock + d)] }

/-- The handshake deadline has passed at time `t` (R194). -/
def deadlinePassed (s : State) (t : Nat) : Prop :=
  ∃ h, s.params.handshakeTimeoutTicks = some h ∧ h < t - s.synTime

/-- The idle interval has passed at time `t` (R195). -/
def idlePassed (s : State) (t : Nat) : Prop := s.params.idleTimeoutTicks < t - s.lastActivity

/-- The address and port tests of R153. -/
def fromPeer (s : State) (seg : TcpSegment) : Prop :=
  s.params.filterEn = true →
    seg.srcAddr = s.remoteAddr ∧ seg.sport = s.remotePort ∧ seg.dport = s.localPort

/-- `PH_WAIT_SYNACK` accepts the segment (R153, R155). -/
def acceptedInWait (s : State) (seg : TcpSegment) : Prop :=
  fromPeer s seg ∧ seg.flags.getLsbD 1 = true ∧ seg.flags.getLsbD 4 = true ∧ seg.ack = s.S + 1

/-- A waiting step is about to receive `p`, `d` ticks after the last reading of the clock. -/
structure Delivers (s : State) (ph : Phase) (p : Bytes) (ps : List Bytes) (d : Nat) (ds : List Nat) :
    Prop where
  inPhase : s.phase = ph
  withTag : s.tag = ph.tag
  next : s.outside.packets = p :: ps
  tick : s.outside.ticks = d :: ds

/-- The edges of R161's phase graph, with its self-loops on `PH_IDLE`, `PH_WAIT_SYNACK`, `PH_RECV` and
`PH_DONE` and no others. -/
def phaseEdges : List (Phase × Phase) :=
  [(.idle, .idle), (.idle, .sendSyn), (.idle, .done),
   (.sendSyn, .waitSynAck), (.sendSyn, .done),
   (.waitSynAck, .waitSynAck), (.waitSynAck, .sendAck), (.waitSynAck, .done),
   (.sendAck, .sendReq), (.sendAck, .done),
   (.sendReq, .recv), (.sendReq, .done),
   (.recv, .recv), (.recv, .sendFinAck), (.recv, .done),
   (.sendFinAck, .done), (.done, .done)]

/-- The transitions of R138's table, and staying put. -/
def tagEdges : List (Tag × Tag) :=
  [(.closed, .closed), (.closed, .synSent), (.synSent, .synSent), (.synSent, .established),
   (.synSent, .closed), (.established, .established), (.established, .finWait),
   (.established, .closed), (.finWait, .finWait), (.finWait, .closed)]

/-- The collaborator calls one step may make in a phase (R165). -/
inductive CallsOfPhase : Phase → List Call → Prop where
  | none (ph : Phase) : CallsOfPhase ph []
  | start (p : Word16) (i : Word32) : CallsOfPhase .idle [.draw16 p, .draw32 i]
  | syn (id : Word16) (a : Addr) (K : Bytes) (t : Nat) :
      CallsOfPhase .sendSyn [.draw16 id, .send a K 0, .now t]
  | synError (id : Word16) (a : Addr) (K : Bytes) (st : Nat) (h : st ≠ 0) :
      CallsOfPhase .sendSyn [.draw16 id, .send a K st]
  | waitPoll (p : Bytes) (t : Nat) : CallsOfPhase .waitSynAck [.receive p, .now t]
  | ack (id : Word16) (a : Addr) (K : Bytes) (st : Nat) :
      CallsOfPhase .sendAck [.draw16 id, .send a K st]
  | req (id : Word16) (a : Addr) (K : Bytes) (st : Nat) :
      CallsOfPhase .sendReq [.draw16 id, .send a K st]
  | recvPoll (p : Bytes) (t : Nat) : CallsOfPhase .recv [.receive p, .now t]
  | finAck (id : Word16) (a : Addr) (K : Bytes) (st : Nat) :
      CallsOfPhase .sendFinAck [.draw16 id, .send a K st]

/-- The six unit operations (R80, R90, R100, R110). -/
def isUnitOperation : Instr → Bool
  | .csum _ | .iphBuild _ _ _ _ | .iphFin _ | .tcpBuild _ _ _ _ _ _ | .tcpFin _ _ _ | .tcpParse _ => true
  | _ => false

/-- One of the six unit operations is the next command. -/
def unitOperationIssued (s : State) : Prop :=
  ∃ c cs i, s.outside.cmds = c :: cs ∧ decode c.place c.bytes = .ok i ∧ isUnitOperation i = true

end Sys2Proof.Claims

open Sys2Proof Sys2Proof.Machine Sys2Proof.Claims Sys2Proof.Safety

/-! ## Encoding -/

/-- Decoding what the encoder writes gives the instruction back, for every well-formed instruction of
every row of the table, with every operand at every value (R79, R82, R72). The operand layout is the
model's own (assumption log 3), the places too (log 4). -/
def Obligations.DecodeOfEncodeIsIdentity : Prop :=
  ∀ i : Instr, i.wellFormed = true → decode (encode i).place (encode i).bytes = .ok i

/-- Whatever bytes the decoder accepts are the encoding of the instruction it reads: no bit of a command
is ignored (R79; the layout is the model's own, assumption log 3). -/
def Obligations.DecodedCommandsEncodeBack : Prop :=
  ∀ (pl : Place) (bs : Bytes) (i : Instr), decode pl bs = .ok i → encode i = ⟨pl, bs⟩

/-- A few commands written out from R79, R77, R70, R72, R61 and R64 decode to what they stand for, and the
codes of `tag`, `phase` and `result` are R76's, R77's and R78's. The operation codes, patterns and register
codes are the tables'; the layout of the operand bytes behind 0x10, 0x20 and 0x40 is the model's own
(assumption log 3), and so are the places (log 4). -/
def Obligations.WordsOfTheTableDecode : Prop :=
  decode .caller [0x10, 0xAB] = .ok (.csum [0xAB]) ∧
  decode .caller [0x20, 10, 0, 0, 2, 93, 184, 216, 34, 0x00, 0x14, 0x12, 0x34] =
    .ok (.iphBuild ⟨10, 0, 0, 2⟩ ⟨93, 184, 216, 34⟩ 20 0x1234) ∧
  decode .event [0x40, 0xC0, 0x00, 0x00, 0x00, 0x03, 0xE8, 0x00, 0x50] =
    .ok (.csmOpen 0xC000 1000 80) ∧
  decode .caller [0x51] = .ok .step ∧
  decode .caller [0x5F] = .ok .reset ∧
  decode .sequencer [0x02, 0x8D] = .ok .stepRecv ∧
  decode (.built .sendReq) [0x18] = .ok .pktReq ∧
  decode (.inbound .waitSynAck) [0x1A] = .ok (.inSynAckTest 0x1A) ∧
  decode .ipHeader0 [0x45] = .ok .ipByte0 ∧
  [Tag.closed, .synSent, .established, .finWait].map Tag.code = [0, 1, 2, 3] ∧
  [Phase.idle, .sendSyn, .waitSynAck, .sendAck, .sendReq, .recv, .sendFinAck, .done].map Phase.code =
    [0, 1, 2, 3, 4, 5, 6, 7] ∧
  [Result.none, .success, .failSetup, .failHandshake, .failTransmission, .failIdleTimeout].map
    Result.code = [0, 1, 2, 3, 4, 5]

/-- A code of the caller that R79 does not list, and a `CSM.*` code from the caller, are refused by name
(R80). -/
def Obligations.UnusedAndForbiddenCodesRefused : Prop :=
  ∀ (s : State) (code : Byte) (r : Bytes) (cs : List Command),
    s.outside.cmds = ⟨.caller, code :: r⟩ :: cs →
    (code ∈ [0x40, 0x41, 0x42, 0x43, 0x4F] →
      step s = .refused (.undecodable (.notOfferedToCaller code))) ∧
    (code ∉ [0x10, 0x20, 0x21, 0x30, 0x31, 0x32, 0x40, 0x41, 0x42, 0x43, 0x4F, 0x50, 0x51, 0x5F] →
      step s = .refused (.undecodable (.unusedCode code)))

/-- A step performs the next command when it decodes, refuses it by name when it does not, and performs
`STEP` when no command is waiting (R7, R162; the command queue is the model's own, assumption log 1). -/
def Obligations.StepRunsTheDecodedCommand : Prop :=
  (∀ (s : State) (c : Command) (cs : List Command) (i : Instr),
    s.outside.cmds = c :: cs → decode c.place c.bytes = .ok i →
      step s = exec i { s with outside := { s.outside with cmds := cs } }) ∧
  (∀ (s : State) (c : Command) (cs : List Command) (e : DecodeError),
    s.outside.cmds = c :: cs → decode c.place c.bytes = .error e →
      step s = .refused (.undecodable e)) ∧
  (∀ s : State, s.outside.cmds = [] → step s = exec .step s)

/-! ## The checksum unit -/

/-- `CSUM` answers R92 (b)'s closed form of the sum of its words, on every buffer, and changes nothing else
(R90, R91, R92). -/
def Obligations.CsumAnswersClosedForm : Prop :=
  ∀ (B : Bytes) (s : State),
    exec (.csum B) s =
      .next (answered s (.word (BitVec.ofNat 16 (closedForm (wordTotal B)))))

/-- R92 (a), (c), (d), which the spec marks as derived from R91: no addition overflows, every fold gives at most 0xFFFF and the final fold changes
nothing; the result does not depend on the order of the words; it does depend on which byte of a word
is the high one. -/
def Obligations.CsumArithmeticFacts : Prop :=
  (∀ (sum : Word32) (w : Word16), sum.toNat ≤ 0xFFFF →
    (sum + w.setWidth 32).toNat = sum.toNat + w.toNat ∧ (addWord sum w).toNat ≤ 0xFFFF) ∧
  (∀ B : Bytes, (csumLoop B 0).toNat ≤ 0xFFFF ∧ Machine.fold (csumLoop B 0) = csumLoop B 0) ∧
  (∀ ws vs : List Word16, ws.Perm vs → csum (ws.flatMap be16) = csum (vs.flatMap be16)) ∧
  (∃ hi lo : Byte, csum [hi, lo] ≠ csum [lo, hi])

/-- R93, the self-verification contract: a field at an even offset, zero while the checksum is computed and
then holding it big-endian, makes the checksum of the whole buffer zero; at an odd offset it fails in
general; the two fields of the block are at the even offsets 10 and 12 + 16. -/
def Obligations.ChecksumVerifiesItself : Prop :=
  (∀ (B : Bytes) (k : Nat), k % 2 = 0 → k + 1 < B.length → B[k]? = some 0 → B[k + 1]? = some 0 →
    csum (write16 B k (csum B)) = 0) ∧
  (∃ (B : Bytes) (k : Nat), k % 2 = 1 ∧ k + 1 < B.length ∧ B[k]? = some 0 ∧ B[k + 1]? = some 0 ∧
    csum (write16 B k (csum B)) ≠ 0) ∧
  ipChecksumOffset = 10 ∧
  (∀ (src dst : Addr) (n : Nat), (pseudoHeader src dst n).length + tcpChecksumOffset = 28)

/-- The corner cases of `CSUM` (R94, which the spec marks as derived from R91). -/
def Obligations.CsumCornerCases : Prop :=
  csum [] = 0xFFFF ∧
  (∀ b : Byte, (csum [b]).toNat = 0xFFFF - b.toNat * 256) ∧
  (∀ n : Nat, csum (List.replicate n 0) = 0xFFFF) ∧
  (∀ n : Nat, csum (List.replicate (2 * (n + 1)) 0xFF) = 0x0000) ∧
  (∀ B : Bytes, csum (B ++ [0]) = csum B)

/-! ## The ipv4_header_builder -/

/-- `IPH.BUILD` answers R61's header, field by field, on every operand its rule allows (R101). -/
def Obligations.IphBuildLaysOutTheHeader : Prop :=
  ∀ (src dst : Addr) (n : Nat) (ident : Word16) (s : State), n ≤ 65515 →
    ∃ H len, exec (.iphBuild src dst n ident) s = .next (answered s (.buffer H)) ∧
      H.length = 20 ∧ readByte H 0 = some 0x45 ∧ readByte H 1 = some 0x00 ∧
      read16 H 2 = some len ∧ len.toNat = 20 + n ∧ read16 H 4 = some ident ∧
      read16 H 6 = some 0 ∧ readByte H 8 = some 64 ∧ readByte H 9 = some 6 ∧
      read16 H 10 = some 0 ∧ readAddr H 12 = some src ∧ readAddr H 16 = some dst ∧
      (encode (.iphBuild src dst n ident)).bytes.head? = some 0x20

/-- `IPH.FIN` answers the header with its checksum over the zeroed header at offsets 10 and 11, and no other
byte changed (R103). -/
def Obligations.IphFinPatchesTheChecksum : Prop :=
  ∀ (H : Bytes) (s : State), H.length = 20 →
    ∃ H', exec (.iphFin H) s = .next (answered s (.buffer H')) ∧ H'.length = 20 ∧
      (∀ k, k ≠ 10 → k ≠ 11 → H'[k]? = H[k]?) ∧
      read16 H' 10 = some (csum (zeroedAt H 10)) ∧
      (encode (.iphFin H)).bytes.head? = some 0x21

/-- R104 and R105: `IPH.FIN` does not depend on what the field held and may be run again; its result sums
to zero, and a built header keeps byte 0 and its total length. -/
def Obligations.FinalizedHeaderVerifies : Prop :=
  (∀ H : Bytes, H.length = 20 →
    iphFin (iphFin H) = iphFin H ∧ (∀ v, iphFin (write16 H 10 v) = iphFin H) ∧ csum (iphFin H) = 0) ∧
  (∀ (src dst : Addr) (n : Nat) (ident : Word16), n ≤ 65515 →
    ∃ len, (iphFin (iphBuild src dst n ident)).length = 20 ∧
      readByte (iphFin (iphBuild src dst n ident)) 0 = some 0x45 ∧
      read16 (iphFin (iphBuild src dst n ident)) 2 = some len ∧ len.toNat = 20 + n)

/-! ## The tcp_segment_builder -/

/-- `TCP.BUILD` answers R64's segment, field by field, the payload verbatim behind it, on every operand its
rule allows (R111). -/
def Obligations.TcpBuildLaysOutTheSegment : Prop :=
  ∀ (sp dp : Word16) (q a : Word32) (f : BitVec 6) (payload : Bytes) (s : State),
    payload.length ≤ 65495 →
    ∃ G fb, exec (.tcpBuild sp dp q a f payload) s = .next (answered s (.buffer G)) ∧
      G.length = 20 + payload.length ∧ read16 G 0 = some sp ∧ read16 G 2 = some dp ∧
      read32 G 4 = some q ∧ read32 G 8 = some a ∧ readByte G 12 = some 0x50 ∧
      readByte G 13 = some fb ∧ fb.toNat = f.toNat ∧ read16 G 14 = some 0xFFFF ∧
      read16 G 16 = some 0 ∧ read16 G 18 = some 0 ∧ G.drop 20 = payload ∧
      (encode (.tcpBuild sp dp q a f payload)).bytes.head? = some 0x30

/-- `TCP.FIN` answers the segment with the checksum over the pseudo-header and the zeroed segment at
offsets 16 and 17, and no other byte changed (R113, R68). -/
def Obligations.TcpFinPatchesTheChecksum : Prop :=
  ∀ (G : Bytes) (src dst : Addr) (s : State), 20 ≤ G.length → G.length ≤ 65515 →
    ∃ (G' : Bytes) (hi lo : Byte), exec (.tcpFin G src dst) s = .next (answered s (.buffer G')) ∧
      G'.length = G.length ∧ (∀ k, k ≠ 16 → k ≠ 17 → G'[k]? = G[k]?) ∧
      hi.toNat * 256 + lo.toNat = G.length ∧
      read16 G' 16 = some (csum
        ([src.b0, src.b1, src.b2, src.b3, dst.b0, dst.b1, dst.b2, dst.b3, 0x00, 0x06, hi, lo] ++
          zeroedAt G 16)) ∧
      (encode (.tcpFin G src dst)).bytes.head? = some 0x31

/-- R114, which the spec marks as derived from R113, R91 and R93: `TCP.FIN` may be run again; its result verifies with its pseudo-header; the checksum depends on
the addresses. -/
def Obligations.FinalizedSegmentVerifies : Prop :=
  (∀ (G : Bytes) (src dst : Addr), 20 ≤ G.length →
    tcpFin (tcpFin G src dst) src dst = tcpFin G src dst ∧
    (∀ v, tcpFin (write16 G 16 v) src dst = tcpFin G src dst) ∧
    csum (pseudoHeader src dst G.length ++ tcpFin G src dst) = 0) ∧
  (∃ (G : Bytes) (src dst dst' : Addr), 20 ≤ G.length ∧ tcpFin G src dst ≠ tcpFin G src dst')

/-- `TCP.PARSE` completes on every buffer, and its result is `null` exactly when the buffer is shorter than
40 bytes or one of R119's four bounds is broken (R117, R119). No read of it leaves the buffer. -/
def Obligations.ParseIsNullExactlyOnTheBounds : Prop :=
  ∀ (raw : Bytes) (s : State),
    ∃ r, exec (.tcpParse raw) s = .next (answered s (.segment r)) ∧
      (r = none ↔
        raw.length < 40 ∨
        ∃ b0, raw[0]? = some b0 ∧
          (b0.toNat % 16 < 5 ∨ raw.length < b0.toNat % 16 * 4 + 20 ∨
            ∃ b12, raw[b0.toNat % 16 * 4 + 12]? = some b12 ∧
              (b12.toNat / 16 < 5 ∨ raw.length < b0.toNat % 16 * 4 + b12.toNat / 16 * 4)))

/-- A parsed segment's fields are the buffer's, each at its offset from the start of the TCP header, and its
payload is everything behind the TCP header (R116, R118, R121). -/
def Obligations.ParsedFieldsAreTheBuffers : Prop :=
  ∀ (raw : Bytes) (s : State) (seg : TcpSegment),
    exec (.tcpParse raw) s = .next (answered s (.segment (some seg))) →
    ∃ b0 b12 b13, raw[0]? = some b0 ∧ raw[b0.toNat % 16 * 4 + 12]? = some b12 ∧
      raw[b0.toNat % 16 * 4 + 13]? = some b13 ∧
      readAddr raw 12 = some seg.srcAddr ∧ readAddr raw 16 = some seg.dstAddr ∧
      read16 raw (b0.toNat % 16 * 4) = some seg.sport ∧
      read16 raw (b0.toNat % 16 * 4 + 2) = some seg.dport ∧
      read32 raw (b0.toNat % 16 * 4 + 4) = some seg.seq ∧
      read32 raw (b0.toNat % 16 * 4 + 8) = some seg.ack ∧
      seg.doff.toNat = b12.toNat / 16 ∧ seg.flags.toNat = b13.toNat % 64 ∧
      seg.payload = raw.drop (b0.toNat % 16 * 4 + b12.toNat / 16 * 4)

/-- `TCP.PARSE` looks at nothing R120 lists: two buffers of one length that agree on the IHL, the addresses,
the TCP header's first twelve bytes, the data offset, the six flags and the payload parse alike, whatever
else they hold (R120, R63, R67). -/
def Obligations.ParseReadsNothingElse : Prop :=
  ∀ raw raw' : Bytes, raw.length = raw'.length →
    (raw.getD 0 0).toNat % 16 = (raw'.getD 0 0).toNat % 16 →
    (∀ k, 12 ≤ k → k < 20 → raw[k]? = raw'[k]?) →
    (∀ k, (raw.getD 0 0).toNat % 16 * 4 ≤ k → k < (raw.getD 0 0).toNat % 16 * 4 + 12 →
      raw[k]? = raw'[k]?) →
    (raw.getD ((raw.getD 0 0).toNat % 16 * 4 + 12) 0).toNat / 16 =
      (raw'.getD ((raw.getD 0 0).toNat % 16 * 4 + 12) 0).toNat / 16 →
    (raw.getD ((raw.getD 0 0).toNat % 16 * 4 + 13) 0).toNat % 64 =
      (raw'.getD ((raw.getD 0 0).toNat % 16 * 4 + 13) 0).toNat % 64 →
    (∀ k, (raw.getD 0 0).toNat % 16 * 4 +
        (raw.getD ((raw.getD 0 0).toNat % 16 * 4 + 12) 0).toNat / 16 * 4 ≤ k → raw[k]? = raw'[k]?) →
    tcpParse raw = tcpParse raw'

/-- R122, which the spec marks as derived from R101, R103, R111, R113 and R117: parsing a built and finalized packet gives the operands back. -/
def Obligations.ParseOfBuiltPacketGivesOperandsBack : Prop :=
  ∀ (s d : Addr) (id sp dp : Word16) (q a : Word32) (f : BitVec 6) (pl : Bytes), pl.length ≤ 65495 →
    tcpParse (iphFin (iphBuild s d (tcpFin (tcpBuild sp dp q a f pl) s d).length id) ++
        tcpFin (tcpBuild sp dp q a f pl) s d) =
      some { srcAddr := s, dstAddr := d, sport := sp, dport := dp, seq := q, ack := a, doff := 5,
             flags := f, payload := pl }

/-- Operands outside the range of their rule are refused (R102, R112, R113, R183); for `IPH.FIN` the
operand is 20 bytes by R103, and refusing another length is the model's choice (assumption log 19). The
request shorthand expands to `PKT` (R82, R152) and so needs `TCP.BUILD`'s bound too; that it can be performed
alone, and is then refused above the bound, is the model's choice (assumption log 16). -/
def Obligations.OperandsOutOfRangeRefused : Prop :=
  (∀ (src dst : Addr) (n : Nat) (ident : Word16) (s : State), 65515 < n →
    exec (.iphBuild src dst n ident) s = .refused .operandOutOfRange) ∧
  (∀ (H : Bytes) (s : State), H.length ≠ 20 → exec (.iphFin H) s = .refused .operandOutOfRange) ∧
  (∀ (sp dp : Word16) (q a : Word32) (f : BitVec 6) (payload : Bytes) (s : State),
    65495 < payload.length → exec (.tcpBuild sp dp q a f payload) s = .refused .operandOutOfRange) ∧
  (∀ (G : Bytes) (src dst : Addr) (s : State), G.length < 20 ∨ 65515 < G.length →
    exec (.tcpFin G src dst) s = .refused .operandOutOfRange) ∧
  (∀ s : State, 65495 < s.req.length → exec .pktReq s = .refused .operandOutOfRange)

/-- The six unit operations are pure: whether they complete, and what they answer, does not depend on the
state, and they change nothing but the answer (R8, R90, R100, R110). -/
def Obligations.UnitOperationsAreFunctionsOfTheirOperands : Prop :=
  ∀ (i : Instr) (s s' t : State), isUnitOperation i = true → exec i s = .next t →
    t = answered s t.outside.answer ∧ exec i s' = .next (answered s' t.outside.answer)

/-! ## The tcp_state_machine -/

/-- `CSM.OPEN` (R131). -/
def Obligations.CsmOpenWritesTheConnection : Prop :=
  ∀ (port : Word16) (iss : Word32) (rport : Word16) (s : State), s.tag = .closed → s.phase = .idle →
    exec (.csmOpen port iss rport) s =
      .next { s with localPort := port, remotePort := rport, S := iss, localSeq := iss,
                     tag := .synSent } ∧
    (encode (.csmOpen port iss rport)).bytes.head? = some 0x40

/-- `CSM.SYNACK` (R132): the payload and the other flags of the segment play no part. R132's operand is a
segment for which `MATCH` held; that the event does not test this again, and so has the same effect on every
other segment, is the model's inference (assumption log 29, DEDUCED). -/
def Obligations.CsmSynAckLearnsThePeersNumber : Prop :=
  ∀ (seg : TcpSegment) (s : State), s.tag = .synSent →
    exec (.csmSynAck seg) s =
      .next { s with R := seg.seq, remoteSeq := seg.seq, localSeq := s.S + 1, tag := .established } ∧
    (encode (.csmSynAck seg)).bytes.head? = some 0x41

/-- `CSM.SEGMENT` (R133): the payload is appended, FIN or no FIN; FIN moves the tag; no other field of the
segment plays a part. R133's operand is a segment for which `MATCH` held in `PH_RECV`; that the event does not
test this again, and so has the same effect on every other segment, is the model's inference (assumption log
29, DEDUCED). -/
def Obligations.CsmSegmentAppendsAndSeesFin : Prop :=
  ∀ (seg : TcpSegment) (s : State), s.tag = .established →
    exec (.csmSegment seg) s =
      .next { s with remoteSeq := seg.seq, resp := s.resp ++ seg.payload,
                     tag := if seg.flags.getLsbD 0 then .finWait else .established,
                     outside := { s.outside with answer := .flag (seg.flags.getLsbD 0) } } ∧
    (encode (.csmSegment seg)).bytes.head? = some 0x42

/-- `CSM.CLOSE` (R134) and `CSM.ABORT` (R135) write the tag and nothing else; `CSM.ABORT` in every state. -/
def Obligations.CsmCloseAndAbortWriteTheTagOnly : Prop :=
  (∀ s : State, s.tag = .finWait → exec .csmClose s = .next { s with tag := .closed }) ∧
  (∀ s : State, exec .csmAbort s = .next { s with tag := .closed }) ∧
  (encode .csmClose).bytes = [0x43] ∧ (encode .csmAbort).bytes = [0x4F]

/-! ## START, RESET and failures -/

/-- `START` with the channel ready (R150, R151): the operands held, the port and then `S` drawn, the
connection opened, the next phase `PH_SEND_SYN`; nothing else of the state and no other collaborator. -/
def Obligations.StartOpensTheConnection : Prop :=
  ∀ (laddr raddr : Addr) (rport : Word16) (request : Bytes) (s : State),
    s.phase = .idle → s.tag = .closed → request.length ≤ 65495 →
    ∃ p i o,
      exec (.start laddr raddr rport request true) s =
        .next { s with localAddr := laddr, remoteAddr := raddr, req := request, localPort := p,
                       remotePort := rport, S := i, localSeq := i, tag := .synSent,
                       phase := .sendSyn, outside := o } ∧
      o.trace = s.outside.trace ++ [.draw16 p, .draw32 i] ∧
      (∀ v vs, s.outside.draws16 = v :: vs → p = v ∧ o.draws16 = vs) ∧
      (∀ v vs, s.outside.draws32 = v :: vs → i = v ∧ o.draws32 = vs) ∧
      o.cmds = s.outside.cmds ∧ o.ticks = s.outside.ticks ∧ o.statuses = s.outside.statuses ∧
      o.packets = s.outside.packets ∧ o.clock = s.outside.clock ∧ o.answer = s.outside.answer

/-- `START` with the channel not ready fails at once: no draw, no packet, no operand kept (R150, R180,
R190 a). -/
def Obligations.StartWithoutChannelFails : Prop :=
  ∀ (laddr raddr : Addr) (rport : Word16) (request : Bytes) (s : State),
    s.phase = .idle → request.length ≤ 65495 →
    exec (.start laddr raddr rport request false) s = .next (failed s .failSetup s.outside)

/-- R141 (which the spec marks as derived) and R170: an event outside its precondition, `START` outside `PH_IDLE`, and `START` with a request
longer than `REQ_MAX` are refused. -/
def Obligations.OutsideItsPreconditionRefused : Prop :=
  (∀ (port : Word16) (iss : Word32) (rport : Word16) (s : State),
    ¬ (s.tag = .closed ∧ s.phase = .idle) →
      exec (.csmOpen port iss rport) s = .refused .outsidePrecondition) ∧
  (∀ (seg : TcpSegment) (s : State), s.tag ≠ .synSent →
    exec (.csmSynAck seg) s = .refused .outsidePrecondition) ∧
  (∀ (seg : TcpSegment) (s : State), s.tag ≠ .established →
    exec (.csmSegment seg) s = .refused .outsidePrecondition) ∧
  (∀ s : State, s.tag ≠ .finWait → exec .csmClose s = .refused .outsidePrecondition) ∧
  (∀ (laddr raddr : Addr) (rport : Word16) (request : Bytes) (ready : Bool) (s : State),
    s.phase ≠ .idle →
      exec (.start laddr raddr rport request ready) s = .refused .outsidePrecondition) ∧
  (∀ (laddr raddr : Addr) (rport : Word16) (request : Bytes) (ready : Bool) (s : State),
    s.phase = .idle → 65495 < request.length →
      exec (.start laddr raddr rport request ready) s = .refused .requestTooLong)

/-- R186: a failure writes `tag`, `result` and `phase` and nothing else; R180's codes. -/
def Obligations.FailureEntryWritesThreeRegisters : Prop :=
  ∀ s : State,
    raiseFail .setup s = failed s .failSetup s.outside ∧
    raiseFail .handshake s = failed s .failHandshake s.outside ∧
    raiseFail .transmission s = failed s .failTransmission s.outside ∧
    raiseFail .idleTimeout s = failed s .failIdleTimeout s.outside

/-- `RESET` in every state (R210, R212): `tag`, `phase`, `result` and `resp` as given; no collaborator is
called, nothing outside is touched, and the parameters stay. The state after reset has the same four
values (R33) and this hardware's `FILTER_EN` (R6). What the spec leaves unspecified is stated nowhere: the
free values of `RESET` (assumption log 9) and the zeros of `State.reset` (log 8). -/
def Obligations.ResetClearsTheTransfer : Prop :=
  (∀ s : State, ∃ t n, exec .reset s = .next t ∧
    t.tag = .closed ∧ t.phase = .idle ∧ t.result = .none ∧ t.resp = [] ∧ t.params = s.params ∧
    t.outside = { s.outside with freeCount := n }) ∧
  (encode .reset).bytes = [0x5F] ∧
  State.reset.tag = .closed ∧ State.reset.phase = .idle ∧ State.reset.result = .none ∧
  State.reset.resp = [] ∧ State.reset.params.filterEn = true

/-! ## The phase steps -/

/-- `STEP` performs the phase step that `phase` selects, in every state (R162); `STEP.IDLE` and `STEP.DONE`
change nothing and call nothing (R163, R160). -/
def Obligations.StepSelectsByPhase : Prop :=
  (∀ s : State, exec .step s = exec (match s.phase with
    | .idle => .stepIdle | .sendSyn => .stepSendSyn | .waitSynAck => .stepWaitSynAck
    | .sendAck => .stepSendAck | .sendReq => .stepSendReq | .recv => .stepRecv
    | .sendFinAck => .stepSendFinAck | .done => .stepDone) s) ∧
  (∀ s : State, s.phase = .idle → exec .stepIdle s = .next s ∧ exec .step s = .next s) ∧
  (∀ s : State, s.phase = .done → exec .stepDone s = .next s ∧ exec .step s = .next s)

/-- Where a phase step stops. Outside its phase it is refused (R79, R162); that its tag is required too is
the model's reading of R34 (c) and R141 (assumption log 13). A channel that delivers more than
`RX_BUF_BYTES` bytes breaks its duty (R202), and a waiting step then stops by name rather than write
outside the buffer (R46; the model's choice, assumption log 12). -/
def Obligations.PhaseStepsStopElsewhere : Prop :=
  (∀ s : State, s.phase ≠ .idle → exec .stepIdle s = .refused .outsidePrecondition) ∧
  (∀ s : State, ¬ (s.phase = .sendSyn ∧ s.tag = .synSent) →
    exec .stepSendSyn s = .refused .outsidePrecondition) ∧
  (∀ s : State, ¬ (s.phase = .waitSynAck ∧ s.tag = .synSent) →
    exec .stepWaitSynAck s = .refused .outsidePrecondition) ∧
  (∀ s : State, ¬ (s.phase = .sendAck ∧ s.tag = .established) →
    exec .stepSendAck s = .refused .outsidePrecondition) ∧
  (∀ s : State, ¬ (s.phase = .sendReq ∧ s.tag = .established) →
    exec .stepSendReq s = .refused .outsidePrecondition) ∧
  (∀ s : State, ¬ (s.phase = .recv ∧ s.tag = .established) →
    exec .stepRecv s = .refused .outsidePrecondition) ∧
  (∀ s : State, ¬ (s.phase = .sendFinAck ∧ s.tag = .finWait) →
    exec .stepSendFinAck s = .refused .outsidePrecondition) ∧
  (∀ s : State, s.phase ≠ .done → exec .stepDone s = .refused .outsidePrecondition) ∧
  (∀ (s : State) (p : Bytes) (ps : List Bytes), s.outside.packets = p :: ps → 65535 < p.length →
    (s.phase = .waitSynAck → s.tag = .synSent →
      exec .stepWaitSynAck s = .fault .receiveOverrun) ∧
    (s.phase = .recv → s.tag = .established → exec .stepRecv s = .fault .receiveOverrun))

/-- `STEP.SEND_SYN` (R154): the SYN with `seq = local_seq`, `ack = 0`, flags 0x02 and no payload; when it is
sent the two times are read and the wait begins; when `send` reports an error the transfer fails. -/
def Obligations.SendSynStepSendsTheSyn : Prop :=
  ∀ s : State, s.phase = .sendSyn → s.tag = .synSent →
    ∃ id st t o,
      (st = 0 →
        exec .stepSendSyn s =
          .next { s with lastActivity := t, synTime := t, phase := .waitSynAck, outside := o } ∧
        SentOne s ⟨s.localSeq, 0, 0x02, []⟩ id st o [.now t] ∧ s.outside.clock ≤ t ∧ o.clock = t ∧
        (∀ d ds, s.outside.ticks = d :: ds → t = s.outside.clock + d ∧ o.ticks = ds)) ∧
      (st ≠ 0 →
        exec .stepSendSyn s = .next (failed s .failTransmission o) ∧
        SentOne s ⟨s.localSeq, 0, 0x02, []⟩ id st o [] ∧ sameTime s o) ∧
      (∀ v vs, s.outside.statuses = v :: vs → st = v)

/-- `STEP.SEND_ACK` (R156). -/
def Obligations.SendAckStepSendsTheAck : Prop :=
  ∀ s : State, s.phase = .sendAck → s.tag = .established →
    ∃ id st o,
      exec .stepSendAck s =
        .next (if st = 0 then { s with phase := .sendReq, outside := o }
               else failed s .failTransmission o) ∧
      SentOne s ⟨s.localSeq, s.remoteSeq + 1, 0x10, []⟩ id st o [] ∧ sameTime s o

/-- `STEP.SEND_REQ` (R157): the whole request in one packet with flags 0x18; `last_activity` and
`local_seq` stay. The request fits by R24; a state whose request does not is refused (R112). -/
def Obligations.SendReqStepSendsTheRequest : Prop :=
  (∀ s : State, s.phase = .sendReq → s.tag = .established → s.req.length ≤ 65495 →
    ∃ id st o,
      exec .stepSendReq s =
        .next (if st = 0 then { s with phase := .recv, outside := o }
               else failed s .failTransmission o) ∧
      SentOne s ⟨s.localSeq, s.remoteSeq + 1, 0x18, s.req⟩ id st o [] ∧ sameTime s o) ∧
  (∀ s : State, s.phase = .sendReq → s.tag = .established → 65495 < s.req.length →
    exec .stepSendReq s = .refused .operandOutOfRange)

/-- `STEP.SEND_FINACK` (R159): an ACK without FIN; success when it is sent, the transmission failure with
the response kept when `send` reports an error. -/
def Obligations.SendFinAckStepEndsTheTransfer : Prop :=
  ∀ s : State, s.phase = .sendFinAck → s.tag = .finWait →
    ∃ id st o,
      exec .stepSendFinAck s =
        .next (if st = 0 then
                 { s with tag := .closed, result := .success, phase := .done, outside := o }
               else failed s .failTransmission o) ∧
      SentOne s ⟨s.localSeq, s.remoteSeq + 1, 0x10, []⟩ id st o [] ∧ sameTime s o

/-- `STEP.WAIT_SYNACK` on no-data (R155, R194, R195): the handshake failure when the idle interval or the
deadline has passed, strictly; else only the poll. -/
def Obligations.WaitOnNoDataLooksAtTheTimers : Prop :=
  ∀ (s : State) (ps : List Bytes) (d : Nat) (ds : List Nat), Delivers s .waitSynAck [] ps d ds →
    ((idlePassed s (s.outside.clock + d) ∨ deadlinePassed s (s.outside.clock + d)) →
      exec .stepWaitSynAck s =
        .next { failed s .failHandshake (polled s [] ps d ds) with rxLen := 0 }) ∧
    (¬ (idlePassed s (s.outside.clock + d) ∨ deadlinePassed s (s.outside.clock + d)) →
      exec .stepWaitSynAck s = .next { s with rxLen := 0, outside := polled s [] ps d ds })

/-- `STEP.WAIT_SYNACK` on a matching SYN+ACK (R155, R153, R132): accepted whatever the timers say (R190 c). -/
def Obligations.WaitAcceptsTheMatchingSynAck : Prop :=
  ∀ (s : State) (p : Bytes) (ps : List Bytes) (d : Nat) (ds : List Nat) (seg : TcpSegment),
    Delivers s .waitSynAck p ps d ds → Memory.wf s.rxbuf → p.length ≤ 65535 →
    tcpParse p = some seg → acceptedInWait s seg →
    exec .stepWaitSynAck s =
      .next { s with lastActivity := s.outside.clock + d, R := seg.seq, remoteSeq := seg.seq,
                     localSeq := s.S + 1, tag := .established, phase := .sendAck,
                     rxbuf := Memory.writeBytes s.rxbuf 0 p, rxLen := p.length,
                     outside := polled s p ps d ds }

/-- `STEP.WAIT_SYNACK` on any other packet (R155, R181): it is discarded, which changes nothing but
`last_activity` (and the receive buffer), unless the handshake deadline has passed. -/
def Obligations.WaitDiscardsEverythingElse : Prop :=
  ∀ (s : State) (p : Bytes) (ps : List Bytes) (d : Nat) (ds : List Nat),
    Delivers s .waitSynAck p ps d ds → Memory.wf s.rxbuf → 0 < p.length → p.length ≤ 65535 →
    (∀ seg, tcpParse p = some seg → ¬ acceptedInWait s seg) →
    (¬ deadlinePassed s (s.outside.clock + d) →
      exec .stepWaitSynAck s =
        .next { s with lastActivity := s.outside.clock + d,
                       rxbuf := Memory.writeBytes s.rxbuf 0 p, rxLen := p.length,
                       outside := polled s p ps d ds }) ∧
    (deadlinePassed s (s.outside.clock + d) →
      exec .stepWaitSynAck s =
        .next { failed s .failHandshake (polled s p ps d ds) with
                  lastActivity := s.outside.clock + d,
                  rxbuf := Memory.writeBytes s.rxbuf 0 p, rxLen := p.length })

/-- `STEP.RECV` on no-data (R158, R195): the idle timeout, strictly; else only the poll. -/
def Obligations.RecvOnNoDataLooksAtTheWatchdog : Prop :=
  ∀ (s : State) (ps : List Bytes) (d : Nat) (ds : List Nat), Delivers s .recv [] ps d ds →
    (idlePassed s (s.outside.clock + d) →
      exec .stepRecv s =
        .next { failed s .failIdleTimeout (polled s [] ps d ds) with rxLen := 0 }) ∧
    (¬ idlePassed s (s.outside.clock + d) →
      exec .stepRecv s = .next { s with rxLen := 0, outside := polled s [] ps d ds })

/-- `STEP.RECV` on a segment of the peer's (R158, R133, R153): the payload appended, then the FIN acted
on; no sequence number and no other flag looked at. -/
def Obligations.RecvAcceptsThePeersSegment : Prop :=
  ∀ (s : State) (p : Bytes) (ps : List Bytes) (d : Nat) (ds : List Nat) (seg : TcpSegment),
    Delivers s .recv p ps d ds → Memory.wf s.rxbuf → p.length ≤ 65535 →
    tcpParse p = some seg → fromPeer s seg →
    exec .stepRecv s =
      .next { s with lastActivity := s.outside.clock + d, remoteSeq := seg.seq,
                     resp := s.resp ++ seg.payload,
                     tag := if seg.flags.getLsbD 0 then .finWait else .established,
                     phase := if seg.flags.getLsbD 0 then .sendFinAck else .recv,
                     rxbuf := Memory.writeBytes s.rxbuf 0 p, rxLen := p.length,
                     outside := polled s p ps d ds }

/-- `STEP.RECV` on any other packet (R158, R181): skipped, which changes nothing but `last_activity` (and
the receive buffer). -/
def Obligations.RecvSkipsEverythingElse : Prop :=
  ∀ (s : State) (p : Bytes) (ps : List Bytes) (d : Nat) (ds : List Nat),
    Delivers s .recv p ps d ds → Memory.wf s.rxbuf → 0 < p.length → p.length ≤ 65535 →
    (∀ seg, tcpParse p = some seg → ¬ fromPeer s seg) →
    exec .stepRecv s =
      .next { s with lastActivity := s.outside.clock + d,
                     rxbuf := Memory.writeBytes s.rxbuf 0 p, rxLen := p.length,
                     outside := polled s p ps d ds }

/-- The receive buffer after a waiting step holds the delivered bytes at their offsets and what it held
before at every other offset; every other instruction but `STEP` and `RESET` leaves it alone (R26, R199,
R202). -/
def Obligations.ReceiveWritesTheDeliveredBytesOnly : Prop :=
  (∀ (i : Instr) (s t : State) (p : Bytes) (ps : List Bytes),
    (i = .stepWaitSynAck ∨ i = .stepRecv) → exec i s = .next t → Memory.wf s.rxbuf →
    s.outside.packets = p :: ps →
    t.rxLen = p.length ∧ Memory.readBytes t.rxbuf 0 t.rxLen = p ∧
      ∀ a, Memory.readByte t.rxbuf a = (p[a]?).getD (Memory.readByte s.rxbuf a)) ∧
  (∀ (i : Instr) (s t : State),
    i ≠ .stepWaitSynAck → i ≠ .stepRecv → i ≠ .step → i ≠ .reset → exec i s = .next t →
    t.rxbuf = s.rxbuf ∧ t.rxLen = s.rxLen)

/-! ## The wire patterns -/

/-- The four packet shorthands (R82): one draw, `PKT`'s packet of the row's descriptor answered with the draw
as its identification (R152), nothing sent. The SYN's sequence number is `S` in every state, the other
three carry `local_seq` and `remote_seq + 1`. `PacketsAreFinalAndParseBack` says what `packetOf` is; what it
parses to is said here too. Only the request shorthand asks that the request fit (R112). That a shorthand
can be performed alone is the model's choice (assumption log 16). -/
def Obligations.ShorthandsBuildTheirPackets : Prop :=
  ∀ s : State,
    ∀ e ∈ [(Instr.pktSyn, (⟨s.S, 0, 0x02, []⟩ : Desc)),
           (.pktAck, ⟨s.localSeq, s.remoteSeq + 1, 0x10, []⟩),
           (.pktReq, ⟨s.localSeq, s.remoteSeq + 1, 0x18, s.req⟩),
           (.pktFinalAck, ⟨s.localSeq, s.remoteSeq + 1, 0x10, []⟩)],
      (e.1 = .pktReq → s.req.length ≤ 65495) →
      ∃ id o, exec e.1 s = .next { s with outside := o } ∧ o.answer = .buffer (packetOf e.2 id s) ∧
        o.trace = s.outside.trace ++ [.draw16 id] ∧
        (∀ v vs, s.outside.draws16 = v :: vs → id = v ∧ o.draws16 = vs) ∧
        (o.cmds = s.outside.cmds ∧ o.draws32 = s.outside.draws32 ∧ o.ticks = s.outside.ticks ∧
          o.statuses = s.outside.statuses ∧ o.packets = s.outside.packets ∧
          o.clock = s.outside.clock) ∧
        read16 (packetOf e.2 id s) 4 = some id ∧
        tcpParse (packetOf e.2 id s) =
          some { srcAddr := s.localAddr, dstAddr := s.remoteAddr, sport := s.localPort,
                 dport := s.remotePort, seq := e.2.seq, ack := e.2.ack, doff := 5,
                 flags := e.2.flags, payload := e.2.payload }

/-- The two tests on an inbound flag byte (R72): SYN and ACK, bits 1 and 4; FIN, bit 0; every other bit of
the byte plays no part. -/
def Obligations.InboundTestsLookAtTheirMaskOnly : Prop :=
  ∀ (f : Byte) (s : State),
    exec (.inSynAckTest f) s = .next (answered s (.flag (f.getLsbD 1 && f.getLsbD 4))) ∧
    exec (.inFinTest f) s = .next (answered s (.flag (f.getLsbD 0)))

/-- The two fixed wire bytes (R61, R64, R66), which are the bytes the builders write. -/
def Obligations.FixedWireBytesAreTheBuilders : Prop :=
  ∀ (s : State) (src dst : Addr) (n : Nat) (id sp dp : Word16) (q a : Word32) (f : BitVec 6)
    (pl : Bytes),
    exec .ipByte0 s = .next (answered s (.byte 0x45)) ∧
    exec .tcpByte12 s = .next (answered s (.byte 0x50)) ∧
    readByte (iphBuild src dst n id) 0 = some 0x45 ∧
    readByte (tcpBuild sp dp q a f pl) 12 = some 0x50

/-! ## Packets -/

/-- A packet built by `PKT` (R152, R69) is the finalized header for its length and the drawn identification
followed by the finalized segment of its descriptor; it has `40 + len(payload)` bytes, parses back to its
descriptor, and both of its checksums verify. -/
def Obligations.PacketsAreFinalAndParseBack : Prop :=
  ∀ (d : Desc) (id : Word16) (s : State), d.payload.length ≤ 65495 →
    packetOf d id s =
      iphFin (iphBuild s.localAddr s.remoteAddr (20 + d.payload.length) id) ++
        tcpFin (tcpBuild s.localPort s.remotePort d.seq d.ack d.flags d.payload)
          s.localAddr s.remoteAddr ∧
    (packetOf d id s).length = 40 + d.payload.length ∧
    read16 (packetOf d id s) 4 = some id ∧
    csum ((packetOf d id s).take 20) = 0 ∧
    csum (pseudoHeader s.localAddr s.remoteAddr (20 + d.payload.length) ++
      (packetOf d id s).drop 20) = 0 ∧
    tcpParse (packetOf d id s) =
      some { srcAddr := s.localAddr, dstAddr := s.remoteAddr, sport := s.localPort,
             dport := s.remotePort, seq := d.seq, ack := d.ack, doff := 5, flags := d.flags,
             payload := d.payload }

/-! ## Whole-machine rules -/

/-- The invariant holds after reset. -/
def Obligations.ResetMeetsTheInvariant : Prop := BlockInv State.reset

/-- Every step keeps the invariant: R34 (a) to (d), which the spec marks as derived, `local_seq = S` before
the handshake (R17), the canonical receive buffer, the times in the past and
the request's bound (R24, R26, R196), as long as the outside keeps its duties (R202). -/
def Obligations.EveryStepKeepsTheInvariant : Prop :=
  ∀ s t : State, BlockInv s → step s = .next t → BlockInv t

/-- From a state that meets the invariant no run ever faults (R46, R202). -/
def Obligations.InvariantRunsNeverFault : Prop := ∀ s : State, BlockInv s → NeverFaults s

/-- In a state that meets the invariant `STEP` always completes: no phase step of a run is refused or
faults (R162, R141). -/
def Obligations.StepAlwaysCompletes : Prop := ∀ s : State, BlockInv s → ∃ t, exec .step s = .next t

/-- R161, which the spec marks as derived: a unit operation leaves the phase (R80), `RESET` sets it to
`PH_IDLE`, and whatever else a step performs in a run, a `START` or a `STEP`, moves it along an edge of
R161's own graph; so a sending phase is never stayed in by a `STEP`, and there is no backward edge. -/
def Obligations.PhaseFollowsTheGraph : Prop :=
  ∀ s t : State, BlockInv s → step s = .next t →
    (unitOperationIssued s → t.phase = s.phase) ∧
    (resetIssued s → t.phase = .idle) ∧
    (¬ unitOperationIssued s → ¬ resetIssued s → (s.phase, t.phase) ∈ phaseEdges)

/-- R138, which the spec marks as derived: the tag follows the table; only `RESET` leaves it. -/
def Obligations.TagFollowsTheTable : Prop :=
  ∀ s t : State, BlockInv s → step s = .next t →
    (s.tag, t.tag) ∈ tagEdges ∨ (resetIssued s ∧ t.tag = .closed)

/-- R165, which the spec marks as derived: what collaborators one step may call, and in what order, by its phase; so packets go out in the
four sending phases only, one a step, and `receive` is called in the two waiting phases only (R52, R140). -/
def Obligations.CallsFollowThePattern : Prop :=
  ∀ s t : State, BlockInv s → step s = .next t →
    ∃ calls, t.outside.trace = s.outside.trace ++ calls ∧ CallsOfPhase s.phase calls

/-- R71 (which the spec marks as derived), R198 and R54: whatever a step sends goes to `remote_addr`, has flag byte 0x02, 0x10 or 0x18, and
carries a header checksum and a segment checksum that verify. -/
def Obligations.SentPacketsAreFinal : Prop :=
  ∀ s t : State, BlockInv s → step s = .next t →
    ∀ a K st, Call.send a K st ∈ t.outside.trace.drop s.outside.trace.length →
      a = s.remoteAddr ∧ (K[33]? = some 0x02 ∨ K[33]? = some 0x10 ∨ K[33]? = some 0x18) ∧
      csum (K.take 20) = 0 ∧
      csum (pseudoHeader s.localAddr s.remoteAddr (K.length - 20) ++ K.drop 20) = 0

/-- R34 (e), which the spec marks as derived: the response only grows, until `RESET`. -/
def Obligations.ResponseOnlyGrows : Prop :=
  ∀ s t : State, BlockInv s → step s = .next t →
    s.resp <+: t.resp ∨ (resetIssued s ∧ t.resp = [])

/-- R20, R188: a result once written stays, and the transfer with it, until `RESET`. -/
def Obligations.ResultIsWrittenOnce : Prop :=
  ∀ s t : State, BlockInv s → s.result ≠ .none → step s = .next t →
    (t = { s with outside := t.outside } ∧ t.outside.trace = s.outside.trace) ∨
    (resetIssued s ∧ t.result = .none)

/-- How a run ends (R164, R180, R198): the phase the run ended in and the status of the last `send` say which
result is written, and no other is. -/
def Obligations.ResultSaysHowTheRunEnded : Prop :=
  ∀ s t : State, BlockInv s → step s = .next t → s.phase ≠ .done → t.phase = .done →
    (s.phase = .idle ∧ t.result = .failSetup) ∨
    (s.phase = .waitSynAck ∧ t.result = .failHandshake) ∨
    (s.phase = .recv ∧ t.result = .failIdleTimeout) ∨
    (s.phase ∈ [Phase.sendSyn, .sendAck, .sendReq, .sendFinAck] ∧ t.result = .failTransmission ∧
      ∃ id K st, st ≠ 0 ∧
        t.outside.trace = s.outside.trace ++ [.draw16 id, .send s.remoteAddr K st]) ∨
    (s.phase = .sendFinAck ∧ t.result = .success ∧
      ∃ id K, t.outside.trace = s.outside.trace ++ [.draw16 id, .send s.remoteAddr K 0])

/-- R29, R212: no step changes a parameter, in any state. -/
def Obligations.NoStepChangesAParameter : Prop :=
  ∀ s t : State, step s = .next t → t.params = s.params

/-- R194, and R166 which the spec marks as derived: with a finite deadline, a step of `PH_WAIT_SYNACK` that reads the clock past the deadline
ends the wait, whatever the channel delivers. -/
def Obligations.HandshakeWaitEndsAtTheDeadline : Prop :=
  ∀ (s t : State) (h d : Nat) (ds : List Nat), BlockInv s → s.phase = .waitSynAck →
    s.params.handshakeTimeoutTicks = some h → s.outside.ticks = d :: ds →
    s.synTime + h < s.outside.clock + d → exec .step s = .next t → t.phase ≠ .waitSynAck
end

