-- ==== Sys2Proof/Laws/Bytes.lean ====
section
/-! SUPPORT. Bytes and values: what is put together from bytes comes apart into them again (R42, R66), and
what each operand of a command decodes to. -/

namespace Sys2Proof

/-- The two bytes of a value make the value. -/
@[simp] theorem word16Of_bytes (v : Word16) : word16Of (v.extractLsb' 8 8) (v.extractLsb' 0 8) = v := by
  apply BitVec.eq_of_getLsbD_eq
  intro i hi
  simp only [word16Of, BitVec.getLsbD_append, BitVec.getLsbD_extractLsb']
  by_cases h : i < 8
  · simp [h]
  · have h8 : i - 8 < 8 := by omega
    have e : 8 + (i - 8) = i := by omega
    simp [h, h8, e]

/-- The four bytes of a value make the value. -/
@[simp] theorem word32Of_bytes (v : Word32) :
    word32Of (v.extractLsb' 24 8) (v.extractLsb' 16 8) (v.extractLsb' 8 8) (v.extractLsb' 0 8) = v := by
  apply BitVec.eq_of_getLsbD_eq
  intro i hi
  simp only [word32Of, BitVec.getLsbD_append, BitVec.getLsbD_extractLsb']
  by_cases h : i < 8
  · simp [h]
  · by_cases h2 : i - 8 < 8
    · have e : 8 + (i - 8) = i := by omega
      simp [h, h2, e]
    · by_cases h3 : i - 8 - 8 < 8
      · have e : 16 + (i - 8 - 8) = i := by omega
        simp [h, h2, h3, e]
      · have h4 : i - 8 - 8 - 8 < 8 := by omega
        have e : 24 + (i - 8 - 8 - 8) = i := by omega
        simp [h, h2, h3, h4, e]

/-- A value made of two bytes, as a number. -/
theorem toNat_word16Of (hi lo : Byte) : (word16Of hi lo).toNat = hi.toNat * 256 + lo.toNat := by
  have h := Nat.two_pow_add_eq_or_of_lt lo.isLt hi.toNat
  rw [word16Of, BitVec.toNat_append, Nat.shiftLeft_eq, Nat.mul_comm hi.toNat, ← h]

/-- A value made of four bytes, as a number. -/
theorem toNat_word32Of (a b c d : Byte) :
    (word32Of a b c d).toNat = ((a.toNat * 256 + b.toNat) * 256 + c.toNat) * 256 + d.toNat := by
  have h1 := Nat.two_pow_add_eq_or_of_lt b.isLt a.toNat
  have h2 := Nat.two_pow_add_eq_or_of_lt c.isLt (a ++ b).toNat
  have h3 := Nat.two_pow_add_eq_or_of_lt d.isLt (a ++ b ++ c).toNat
  rw [Nat.mul_comm, ← Nat.shiftLeft_eq, ← BitVec.toNat_append] at h1 h2 h3
  rw [word32Of, ← h3, ← h2, ← h1]
  simp only [Nat.shiftLeft_eq]

/-- A value made of two bytes comes apart into them. -/
@[simp] theorem be16_word16Of (a b : Byte) : be16 (word16Of a b) = [a, b] := by
  have h := toNat_word16Of a b
  have ha := a.isLt
  have hb := b.isLt
  have h1 : (word16Of a b).extractLsb' 8 8 = a := by
    apply BitVec.eq_of_toNat_eq
    rw [BitVec.extractLsb'_toNat, h, Nat.shiftRight_eq_div_pow]
    omega
  have h2 : (word16Of a b).extractLsb' 0 8 = b := by
    apply BitVec.eq_of_toNat_eq
    rw [BitVec.extractLsb'_toNat, h, Nat.shiftRight_eq_div_pow]
    omega
  rw [be16, h1, h2]

/-- A value made of four bytes comes apart into them. -/
@[simp] theorem be32_word32Of (a b c d : Byte) : be32 (word32Of a b c d) = [a, b, c, d] := by
  have h := toNat_word32Of a b c d
  have ha := a.isLt
  have hb := b.isLt
  have hc := c.isLt
  have hd := d.isLt
  have h1 : (word32Of a b c d).extractLsb' 24 8 = a := by
    apply BitVec.eq_of_toNat_eq
    rw [BitVec.extractLsb'_toNat, h, Nat.shiftRight_eq_div_pow]
    omega
  have h2 : (word32Of a b c d).extractLsb' 16 8 = b := by
    apply BitVec.eq_of_toNat_eq
    rw [BitVec.extractLsb'_toNat, h, Nat.shiftRight_eq_div_pow]
    omega
  have h3 : (word32Of a b c d).extractLsb' 8 8 = c := by
    apply BitVec.eq_of_toNat_eq
    rw [BitVec.extractLsb'_toNat, h, Nat.shiftRight_eq_div_pow]
    omega
  have h4 : (word32Of a b c d).extractLsb' 0 8 = d := by
    apply BitVec.eq_of_toNat_eq
    rw [BitVec.extractLsb'_toNat, h, Nat.shiftRight_eq_div_pow]
    omega
  rw [be32, h1, h2, h3, h4]

@[simp] theorem length_be16 (v : Word16) : (be16 v).length = 2 := rfl
@[simp] theorem length_be32 (v : Word32) : (be32 v).length = 4 := rfl
@[simp] theorem Addr.length_bytes (a : Addr) : a.bytes.length = 4 := rfl

/-- A flag set survives its byte (R70). -/
@[simp] theorem flagsOfByte_flagByteOf (f : BitVec 6) : flagsOfByte (flagByteOf f) = f := by
  revert f; decide

/-- A nibble with a zero above it survives its byte. -/
theorem nibbles_zero_parts (n : BitVec 4) :
    highNibble (nibbles 0#4 n) = 0#4 ∧ lowNibble (nibbles 0#4 n) = n := by
  revert n; decide

/-- A byte is its two nibbles (R66). -/
theorem nibbles_parts (b : Byte) : nibbles (highNibble b) (lowNibble b) = b := by
  revert b; decide

/-! ### What the operand readers give back -/

@[simp] theorem take8_cons (b : Byte) (r : Bytes) : take8 (b :: r) = .ok (b, r) := rfl

@[simp] theorem take16_be16 (v : Word16) (r : Bytes) : take16 (be16 v ++ r) = .ok (v, r) := by
  simp [be16, take16]

@[simp] theorem take16_be16_last (v : Word16) : take16 (be16 v) = .ok (v, []) := by
  simp [be16, take16]

@[simp] theorem take32_be32 (v : Word32) (r : Bytes) : take32 (be32 v ++ r) = .ok (v, r) := by
  simp [be32, take32]

@[simp] theorem takeAddr_bytes (a : Addr) (r : Bytes) : takeAddr (a.bytes ++ r) = .ok (a, r) := rfl

@[simp] theorem takeFlags_flagByteOf (f : BitVec 6) (r : Bytes) :
    takeFlags (flagByteOf f :: r) = .ok (f, r) := by
  simp [takeFlags, bind, Except.bind]

@[simp] theorem takeNibble_nibbles (n : BitVec 4) (r : Bytes) :
    takeNibble (nibbles 0#4 n :: r) = .ok (n, r) := by
  simp [takeNibble, nibbles_zero_parts n, bind, Except.bind]

@[simp] theorem takeBool_boolByte (b : Bool) (r : Bytes) :
    takeBool (boolByte b :: r) = .ok (b, r) := by
  cases b <;> rfl

@[simp] theorem atEnd_nil (i : Instr) : atEnd i [] = .ok i := rfl

@[simp] theorem decodeSegment_segmentBytes (g : TcpSegment) : decodeSegment (segmentBytes g) = .ok g := by
  simp [decodeSegment, segmentBytes, bind, Except.bind, List.append_assoc]

end Sys2Proof
end

