-- ==== Sys2Proof/Laws/Memory.lean ====
section
/-! SUPPORT. The receive buffer: a read after a write, and that every write keeps the canonical form. -/

namespace Sys2Proof.Machine

/-- A cell of a written memory is the written one or one that was there. -/
theorem Memory.mem_writeByte {m : Memory} {a : Nat} {b : Byte} {c : Host.Cell}
    (h : c ∈ Memory.writeByte m a b) : (c = (a, b) ∧ b ≠ Config.unlistedByte) ∨ c ∈ m := by
  induction m with
  | nil => simp only [Memory.writeByte] at h; split at h <;> simp_all
  | cons kv rest ih =>
    obtain ⟨k, v⟩ := kv
    simp only [Memory.writeByte] at h
    split at h
    · split at h <;> simp_all
    · split at h
      · split at h
        · exact .inr (List.mem_cons_of_mem _ h)
        · rcases List.mem_cons.1 h with h | h
          · exact .inl ⟨h, by assumption⟩
          · exact .inr (List.mem_cons_of_mem _ h)
      · rcases List.mem_cons.1 h with h | h
        · exact .inr (by simp [h])
        · rcases ih h with h | h
          · exact .inl h
          · exact .inr (List.mem_cons_of_mem _ h)

/-- A byte write keeps the canonical form. -/
theorem Memory.wf_writeByte {m : Memory} (hm : Memory.wf m) (a : Nat) (b : Byte) :
    Memory.wf (Memory.writeByte m a b) := by
  refine ⟨?_, fun c hc => ?_⟩
  · induction m with
    | nil => simp only [Memory.writeByte]; split <;> simp
    | cons kv rest ih =>
      obtain ⟨k, v⟩ := kv
      obtain ⟨hs, hv⟩ := hm
      rw [List.pairwise_cons] at hs
      have hrest : Memory.wf rest := ⟨hs.2, fun c hc => hv c (List.mem_cons_of_mem _ hc)⟩
      simp only [Memory.writeByte]
      split
      · rename_i hlt
        split
        · exact List.pairwise_cons.2 hs
        · refine List.pairwise_cons.2 ⟨?_, List.pairwise_cons.2 hs⟩
          intro x hx
          rcases List.mem_cons.1 hx with rfl | hx
          · exact hlt
          · exact hlt.trans (hs.1 x hx)
      · split
        · rename_i h1 h2
          split
          · exact hs.2
          · exact List.pairwise_cons.2 ⟨fun x hx => h2 ▸ hs.1 x hx, hs.2⟩
        · rename_i h1 h2
          refine List.pairwise_cons.2 ⟨?_, ih hrest⟩
          intro x hx
          rcases Memory.mem_writeByte hx with ⟨rfl, -⟩ | hx
          · show k < a
            omega
          · exact hs.1 x hx
  · rcases Memory.mem_writeByte hc with ⟨rfl, hb⟩ | hc
    · exact hb
    · exact hm.2 c hc

/-- A write of several bytes keeps the canonical form. -/
theorem Memory.wf_writeBytes {m : Memory} (hm : Memory.wf m) (a : Nat) (bs : Bytes) :
    Memory.wf (Memory.writeBytes m a bs) := by
  induction bs generalizing m a with
  | nil => exact hm
  | cons b bs ih => exact ih (Memory.wf_writeByte hm a b) (a + 1)

/-- A write inside a buffer leaves no cell outside it (R46). -/
theorem Memory.below_writeBytes {m : Memory} {n : Nat} (hm : Memory.below m n) (a : Nat) (bs : Bytes)
    (h : a + bs.length ≤ n) : Memory.below (Memory.writeBytes m a bs) n := by
  induction bs generalizing m a with
  | nil => exact hm
  | cons b bs ih =>
    simp only [List.length_cons] at h
    refine ih (m := Memory.writeByte m a b) ?_ (a + 1) (by omega)
    intro c hc
    rcases Memory.mem_writeByte hc with ⟨rfl, -⟩ | hc
    · show a < n
      omega
    · exact hm c hc

/-- An offset below every cell reads as unlisted. -/
theorem Memory.readByte_of_lt {m : Memory} {a : Nat} (h : ∀ c ∈ m, a < c.1) :
    Memory.readByte m a = Config.unlistedByte := by
  induction m with
  | nil => rfl
  | cons kv rest ih =>
    have h0 : a < kv.1 := h kv (by simp)
    have : a ≠ kv.1 := by omega
    simp only [Memory.readByte, if_neg this]
    exact ih fun c hc => h c (List.mem_cons_of_mem _ hc)

/-- A read after a write: the byte written at its offset, what stood there at any other. -/
theorem Memory.readByte_writeByte {m : Memory} (hm : Memory.wf m) (a : Nat) (b : Byte) (a' : Nat) :
    Memory.readByte (Memory.writeByte m a b) a' = if a' = a then b else Memory.readByte m a' := by
  induction m with
  | nil =>
    simp only [Memory.writeByte]
    split <;> simp_all [Memory.readByte]
  | cons kv rest ih =>
    obtain ⟨k, v⟩ := kv
    obtain ⟨hs, hv⟩ := hm
    rw [List.pairwise_cons] at hs
    have hrest : Memory.wf rest := ⟨hs.2, fun c hc => hv c (List.mem_cons_of_mem _ hc)⟩
    simp only [Memory.writeByte]
    split
    · rename_i hlt
      split
      · rename_i hb
        split
        · rename_i ha
          subst ha hb
          have : a' ≠ k := by omega
          simp only [Memory.readByte, if_neg this]
          exact Memory.readByte_of_lt fun c hc => hlt.trans (hs.1 c hc)
        · rfl
      · simp [Memory.readByte]
    · split
      · rename_i h1 h2
        subst h2
        split
        · rename_i hb
          split
          · rename_i ha
            subst ha hb
            exact Memory.readByte_of_lt fun c hc => hs.1 c hc
          · rename_i ha
            simp [Memory.readByte, ha]
        · by_cases ha : a' = a
          · simp [Memory.readByte, ha]
          · simp [Memory.readByte, ha]
      · rename_i h1 h2
        simp only [Memory.readByte, ih hrest]
        by_cases hk : a' = k
        · subst hk
          simp [Ne.symm h2]
        · simp [hk]

/-- The slice read has the length asked for. -/
@[simp] theorem Memory.length_readBytes (m : Memory) (a n : Nat) :
    (Memory.readBytes m a n).length = n := by
  induction n generalizing a with
  | zero => rfl
  | succ n ih => simp [Memory.readBytes, ih]

/-- A read after a write of several bytes: the byte written where the write covers the offset. -/
theorem Memory.readByte_writeBytes {m : Memory} (hm : Memory.wf m) (a : Nat) (bs : Bytes) (k : Nat) :
    Memory.readByte (Memory.writeBytes m a bs) k =
      if a ≤ k then (bs[k - a]?).getD (Memory.readByte m k) else Memory.readByte m k := by
  induction bs generalizing m a with
  | nil => simp [Memory.writeBytes]
  | cons b bs ih =>
    rw [Memory.writeBytes, ih (Memory.wf_writeByte hm a b), Memory.readByte_writeByte hm]
    rcases Nat.lt_trichotomy a k with h | h | h
    · have e : k - a = (k - (a + 1)) + 1 := by omega
      have h1 : ¬ k = a := by omega
      have h2 : a + 1 ≤ k := by omega
      have h3 : a ≤ k := by omega
      simp only [h1, h2, h3, if_true, if_false, e, List.getElem?_cons_succ]
    · subst h
      simp
    · have h1 : ¬ k = a := by omega
      have h2 : ¬ a + 1 ≤ k := by omega
      have h3 : ¬ a ≤ k := by omega
      simp only [h1, h2, h3, if_false]

/-- A byte of the slice read. -/
theorem Memory.getElem?_readBytes (m : Memory) (a n k : Nat) :
    (Memory.readBytes m a n)[k]? = if k < n then some (Memory.readByte m (a + k)) else none := by
  induction n generalizing a k with
  | zero => simp [Memory.readBytes]
  | succ n ih =>
    cases k with
    | zero => simp [Memory.readBytes]
    | succ k =>
      have e : a + 1 + k = a + (k + 1) := by omega
      simp only [Memory.readBytes, List.getElem?_cons_succ, ih, e, Nat.add_lt_add_iff_right]

/-- A slice read back right after it was written is what was written (R199, R26). -/
theorem Memory.readBytes_writeBytes {m : Memory} (hm : Memory.wf m) (p : Bytes) :
    Memory.readBytes (Memory.writeBytes m 0 p) 0 p.length = p := by
  apply List.ext_getElem?
  intro k
  rw [Memory.getElem?_readBytes]
  split
  · rename_i h
    rw [Memory.readByte_writeBytes hm]
    simp [h]
  · rw [List.getElem?_eq_none (by omega)]

/-- The receive buffer after reset is in canonical form. -/
theorem Memory.wf_nil : Memory.wf [] := ⟨List.Pairwise.nil, fun _ h => nomatch h⟩

end Sys2Proof.Machine
end

