-- ==== Sys2Proof/Laws/State.lean ====
section
/-! SUPPORT. One lemma per field per update of the state, true by rfl, so that no later proof unfolds a
record update. -/

namespace Sys2Proof.Machine

/-! ### `withOutside` -/

@[simp] theorem State.withOutside_tag (s : State) (o : Outside) :
    (s.withOutside o).tag = s.tag := rfl
@[simp] theorem State.withOutside_localPort (s : State) (o : Outside) :
    (s.withOutside o).localPort = s.localPort := rfl
@[simp] theorem State.withOutside_remotePort (s : State) (o : Outside) :
    (s.withOutside o).remotePort = s.remotePort := rfl
@[simp] theorem State.withOutside_S (s : State) (o : Outside) :
    (s.withOutside o).S = s.S := rfl
@[simp] theorem State.withOutside_R (s : State) (o : Outside) :
    (s.withOutside o).R = s.R := rfl
@[simp] theorem State.withOutside_localSeq (s : State) (o : Outside) :
    (s.withOutside o).localSeq = s.localSeq := rfl
@[simp] theorem State.withOutside_remoteSeq (s : State) (o : Outside) :
    (s.withOutside o).remoteSeq = s.remoteSeq := rfl
@[simp] theorem State.withOutside_phase (s : State) (o : Outside) :
    (s.withOutside o).phase = s.phase := rfl
@[simp] theorem State.withOutside_result (s : State) (o : Outside) :
    (s.withOutside o).result = s.result := rfl
@[simp] theorem State.withOutside_localAddr (s : State) (o : Outside) :
    (s.withOutside o).localAddr = s.localAddr := rfl
@[simp] theorem State.withOutside_remoteAddr (s : State) (o : Outside) :
    (s.withOutside o).remoteAddr = s.remoteAddr := rfl
@[simp] theorem State.withOutside_lastActivity (s : State) (o : Outside) :
    (s.withOutside o).lastActivity = s.lastActivity := rfl
@[simp] theorem State.withOutside_synTime (s : State) (o : Outside) :
    (s.withOutside o).synTime = s.synTime := rfl
@[simp] theorem State.withOutside_req (s : State) (o : Outside) :
    (s.withOutside o).req = s.req := rfl
@[simp] theorem State.withOutside_resp (s : State) (o : Outside) :
    (s.withOutside o).resp = s.resp := rfl
@[simp] theorem State.withOutside_rxbuf (s : State) (o : Outside) :
    (s.withOutside o).rxbuf = s.rxbuf := rfl
@[simp] theorem State.withOutside_rxLen (s : State) (o : Outside) :
    (s.withOutside o).rxLen = s.rxLen := rfl
@[simp] theorem State.withOutside_params (s : State) (o : Outside) :
    (s.withOutside o).params = s.params := rfl
@[simp] theorem State.withOutside_outside (s : State) (o : Outside) :
    (s.withOutside o).outside = o := rfl

/-! ### `withAnswer` -/

@[simp] theorem State.withAnswer_tag (s : State) (a : Answer) :
    (s.withAnswer a).tag = s.tag := rfl
@[simp] theorem State.withAnswer_localPort (s : State) (a : Answer) :
    (s.withAnswer a).localPort = s.localPort := rfl
@[simp] theorem State.withAnswer_remotePort (s : State) (a : Answer) :
    (s.withAnswer a).remotePort = s.remotePort := rfl
@[simp] theorem State.withAnswer_S (s : State) (a : Answer) :
    (s.withAnswer a).S = s.S := rfl
@[simp] theorem State.withAnswer_R (s : State) (a : Answer) :
    (s.withAnswer a).R = s.R := rfl
@[simp] theorem State.withAnswer_localSeq (s : State) (a : Answer) :
    (s.withAnswer a).localSeq = s.localSeq := rfl
@[simp] theorem State.withAnswer_remoteSeq (s : State) (a : Answer) :
    (s.withAnswer a).remoteSeq = s.remoteSeq := rfl
@[simp] theorem State.withAnswer_phase (s : State) (a : Answer) :
    (s.withAnswer a).phase = s.phase := rfl
@[simp] theorem State.withAnswer_result (s : State) (a : Answer) :
    (s.withAnswer a).result = s.result := rfl
@[simp] theorem State.withAnswer_localAddr (s : State) (a : Answer) :
    (s.withAnswer a).localAddr = s.localAddr := rfl
@[simp] theorem State.withAnswer_remoteAddr (s : State) (a : Answer) :
    (s.withAnswer a).remoteAddr = s.remoteAddr := rfl
@[simp] theorem State.withAnswer_lastActivity (s : State) (a : Answer) :
    (s.withAnswer a).lastActivity = s.lastActivity := rfl
@[simp] theorem State.withAnswer_synTime (s : State) (a : Answer) :
    (s.withAnswer a).synTime = s.synTime := rfl
@[simp] theorem State.withAnswer_req (s : State) (a : Answer) :
    (s.withAnswer a).req = s.req := rfl
@[simp] theorem State.withAnswer_resp (s : State) (a : Answer) :
    (s.withAnswer a).resp = s.resp := rfl
@[simp] theorem State.withAnswer_rxbuf (s : State) (a : Answer) :
    (s.withAnswer a).rxbuf = s.rxbuf := rfl
@[simp] theorem State.withAnswer_rxLen (s : State) (a : Answer) :
    (s.withAnswer a).rxLen = s.rxLen := rfl
@[simp] theorem State.withAnswer_params (s : State) (a : Answer) :
    (s.withAnswer a).params = s.params := rfl
@[simp] theorem State.withAnswer_outside (s : State) (a : Answer) :
    (s.withAnswer a).outside = { s.outside with answer := a } := rfl

/-! ### `record` -/

@[simp] theorem State.record_tag (s : State) (c : Call) :
    (s.record c).tag = s.tag := rfl
@[simp] theorem State.record_localPort (s : State) (c : Call) :
    (s.record c).localPort = s.localPort := rfl
@[simp] theorem State.record_remotePort (s : State) (c : Call) :
    (s.record c).remotePort = s.remotePort := rfl
@[simp] theorem State.record_S (s : State) (c : Call) :
    (s.record c).S = s.S := rfl
@[simp] theorem State.record_R (s : State) (c : Call) :
    (s.record c).R = s.R := rfl
@[simp] theorem State.record_localSeq (s : State) (c : Call) :
    (s.record c).localSeq = s.localSeq := rfl
@[simp] theorem State.record_remoteSeq (s : State) (c : Call) :
    (s.record c).remoteSeq = s.remoteSeq := rfl
@[simp] theorem State.record_phase (s : State) (c : Call) :
    (s.record c).phase = s.phase := rfl
@[simp] theorem State.record_result (s : State) (c : Call) :
    (s.record c).result = s.result := rfl
@[simp] theorem State.record_localAddr (s : State) (c : Call) :
    (s.record c).localAddr = s.localAddr := rfl
@[simp] theorem State.record_remoteAddr (s : State) (c : Call) :
    (s.record c).remoteAddr = s.remoteAddr := rfl
@[simp] theorem State.record_lastActivity (s : State) (c : Call) :
    (s.record c).lastActivity = s.lastActivity := rfl
@[simp] theorem State.record_synTime (s : State) (c : Call) :
    (s.record c).synTime = s.synTime := rfl
@[simp] theorem State.record_req (s : State) (c : Call) :
    (s.record c).req = s.req := rfl
@[simp] theorem State.record_resp (s : State) (c : Call) :
    (s.record c).resp = s.resp := rfl
@[simp] theorem State.record_rxbuf (s : State) (c : Call) :
    (s.record c).rxbuf = s.rxbuf := rfl
@[simp] theorem State.record_rxLen (s : State) (c : Call) :
    (s.record c).rxLen = s.rxLen := rfl
@[simp] theorem State.record_params (s : State) (c : Call) :
    (s.record c).params = s.params := rfl
@[simp] theorem State.record_outside (s : State) (c : Call) :
    (s.record c).outside = { s.outside with trace := s.outside.trace ++ [c] } := rfl

/-! ### `withCmds` -/

@[simp] theorem State.withCmds_tag (s : State) (cs : List Command) :
    (s.withCmds cs).tag = s.tag := rfl
@[simp] theorem State.withCmds_localPort (s : State) (cs : List Command) :
    (s.withCmds cs).localPort = s.localPort := rfl
@[simp] theorem State.withCmds_remotePort (s : State) (cs : List Command) :
    (s.withCmds cs).remotePort = s.remotePort := rfl
@[simp] theorem State.withCmds_S (s : State) (cs : List Command) :
    (s.withCmds cs).S = s.S := rfl
@[simp] theorem State.withCmds_R (s : State) (cs : List Command) :
    (s.withCmds cs).R = s.R := rfl
@[simp] theorem State.withCmds_localSeq (s : State) (cs : List Command) :
    (s.withCmds cs).localSeq = s.localSeq := rfl
@[simp] theorem State.withCmds_remoteSeq (s : State) (cs : List Command) :
    (s.withCmds cs).remoteSeq = s.remoteSeq := rfl
@[simp] theorem State.withCmds_phase (s : State) (cs : List Command) :
    (s.withCmds cs).phase = s.phase := rfl
@[simp] theorem State.withCmds_result (s : State) (cs : List Command) :
    (s.withCmds cs).result = s.result := rfl
@[simp] theorem State.withCmds_localAddr (s : State) (cs : List Command) :
    (s.withCmds cs).localAddr = s.localAddr := rfl
@[simp] theorem State.withCmds_remoteAddr (s : State) (cs : List Command) :
    (s.withCmds cs).remoteAddr = s.remoteAddr := rfl
@[simp] theorem State.withCmds_lastActivity (s : State) (cs : List Command) :
    (s.withCmds cs).lastActivity = s.lastActivity := rfl
@[simp] theorem State.withCmds_synTime (s : State) (cs : List Command) :
    (s.withCmds cs).synTime = s.synTime := rfl
@[simp] theorem State.withCmds_req (s : State) (cs : List Command) :
    (s.withCmds cs).req = s.req := rfl
@[simp] theorem State.withCmds_resp (s : State) (cs : List Command) :
    (s.withCmds cs).resp = s.resp := rfl
@[simp] theorem State.withCmds_rxbuf (s : State) (cs : List Command) :
    (s.withCmds cs).rxbuf = s.rxbuf := rfl
@[simp] theorem State.withCmds_rxLen (s : State) (cs : List Command) :
    (s.withCmds cs).rxLen = s.rxLen := rfl
@[simp] theorem State.withCmds_params (s : State) (cs : List Command) :
    (s.withCmds cs).params = s.params := rfl
@[simp] theorem State.withCmds_outside (s : State) (cs : List Command) :
    (s.withCmds cs).outside = { s.outside with cmds := cs } := rfl

/-! ### `withPhase` -/

@[simp] theorem State.withPhase_tag (s : State) (ph : Phase) :
    (s.withPhase ph).tag = s.tag := rfl
@[simp] theorem State.withPhase_localPort (s : State) (ph : Phase) :
    (s.withPhase ph).localPort = s.localPort := rfl
@[simp] theorem State.withPhase_remotePort (s : State) (ph : Phase) :
    (s.withPhase ph).remotePort = s.remotePort := rfl
@[simp] theorem State.withPhase_S (s : State) (ph : Phase) :
    (s.withPhase ph).S = s.S := rfl
@[simp] theorem State.withPhase_R (s : State) (ph : Phase) :
    (s.withPhase ph).R = s.R := rfl
@[simp] theorem State.withPhase_localSeq (s : State) (ph : Phase) :
    (s.withPhase ph).localSeq = s.localSeq := rfl
@[simp] theorem State.withPhase_remoteSeq (s : State) (ph : Phase) :
    (s.withPhase ph).remoteSeq = s.remoteSeq := rfl
@[simp] theorem State.withPhase_phase (s : State) (ph : Phase) :
    (s.withPhase ph).phase = ph := rfl
@[simp] theorem State.withPhase_result (s : State) (ph : Phase) :
    (s.withPhase ph).result = s.result := rfl
@[simp] theorem State.withPhase_localAddr (s : State) (ph : Phase) :
    (s.withPhase ph).localAddr = s.localAddr := rfl
@[simp] theorem State.withPhase_remoteAddr (s : State) (ph : Phase) :
    (s.withPhase ph).remoteAddr = s.remoteAddr := rfl
@[simp] theorem State.withPhase_lastActivity (s : State) (ph : Phase) :
    (s.withPhase ph).lastActivity = s.lastActivity := rfl
@[simp] theorem State.withPhase_synTime (s : State) (ph : Phase) :
    (s.withPhase ph).synTime = s.synTime := rfl
@[simp] theorem State.withPhase_req (s : State) (ph : Phase) :
    (s.withPhase ph).req = s.req := rfl
@[simp] theorem State.withPhase_resp (s : State) (ph : Phase) :
    (s.withPhase ph).resp = s.resp := rfl
@[simp] theorem State.withPhase_rxbuf (s : State) (ph : Phase) :
    (s.withPhase ph).rxbuf = s.rxbuf := rfl
@[simp] theorem State.withPhase_rxLen (s : State) (ph : Phase) :
    (s.withPhase ph).rxLen = s.rxLen := rfl
@[simp] theorem State.withPhase_params (s : State) (ph : Phase) :
    (s.withPhase ph).params = s.params := rfl
@[simp] theorem State.withPhase_outside (s : State) (ph : Phase) :
    (s.withPhase ph).outside = s.outside := rfl

/-! ### `withTag` -/

@[simp] theorem State.withTag_tag (s : State) (t : Tag) :
    (s.withTag t).tag = t := rfl
@[simp] theorem State.withTag_localPort (s : State) (t : Tag) :
    (s.withTag t).localPort = s.localPort := rfl
@[simp] theorem State.withTag_remotePort (s : State) (t : Tag) :
    (s.withTag t).remotePort = s.remotePort := rfl
@[simp] theorem State.withTag_S (s : State) (t : Tag) :
    (s.withTag t).S = s.S := rfl
@[simp] theorem State.withTag_R (s : State) (t : Tag) :
    (s.withTag t).R = s.R := rfl
@[simp] theorem State.withTag_localSeq (s : State) (t : Tag) :
    (s.withTag t).localSeq = s.localSeq := rfl
@[simp] theorem State.withTag_remoteSeq (s : State) (t : Tag) :
    (s.withTag t).remoteSeq = s.remoteSeq := rfl
@[simp] theorem State.withTag_phase (s : State) (t : Tag) :
    (s.withTag t).phase = s.phase := rfl
@[simp] theorem State.withTag_result (s : State) (t : Tag) :
    (s.withTag t).result = s.result := rfl
@[simp] theorem State.withTag_localAddr (s : State) (t : Tag) :
    (s.withTag t).localAddr = s.localAddr := rfl
@[simp] theorem State.withTag_remoteAddr (s : State) (t : Tag) :
    (s.withTag t).remoteAddr = s.remoteAddr := rfl
@[simp] theorem State.withTag_lastActivity (s : State) (t : Tag) :
    (s.withTag t).lastActivity = s.lastActivity := rfl
@[simp] theorem State.withTag_synTime (s : State) (t : Tag) :
    (s.withTag t).synTime = s.synTime := rfl
@[simp] theorem State.withTag_req (s : State) (t : Tag) :
    (s.withTag t).req = s.req := rfl
@[simp] theorem State.withTag_resp (s : State) (t : Tag) :
    (s.withTag t).resp = s.resp := rfl
@[simp] theorem State.withTag_rxbuf (s : State) (t : Tag) :
    (s.withTag t).rxbuf = s.rxbuf := rfl
@[simp] theorem State.withTag_rxLen (s : State) (t : Tag) :
    (s.withTag t).rxLen = s.rxLen := rfl
@[simp] theorem State.withTag_params (s : State) (t : Tag) :
    (s.withTag t).params = s.params := rfl
@[simp] theorem State.withTag_outside (s : State) (t : Tag) :
    (s.withTag t).outside = s.outside := rfl

/-! ### `withResult` -/

@[simp] theorem State.withResult_tag (s : State) (r : Result) :
    (s.withResult r).tag = s.tag := rfl
@[simp] theorem State.withResult_localPort (s : State) (r : Result) :
    (s.withResult r).localPort = s.localPort := rfl
@[simp] theorem State.withResult_remotePort (s : State) (r : Result) :
    (s.withResult r).remotePort = s.remotePort := rfl
@[simp] theorem State.withResult_S (s : State) (r : Result) :
    (s.withResult r).S = s.S := rfl
@[simp] theorem State.withResult_R (s : State) (r : Result) :
    (s.withResult r).R = s.R := rfl
@[simp] theorem State.withResult_localSeq (s : State) (r : Result) :
    (s.withResult r).localSeq = s.localSeq := rfl
@[simp] theorem State.withResult_remoteSeq (s : State) (r : Result) :
    (s.withResult r).remoteSeq = s.remoteSeq := rfl
@[simp] theorem State.withResult_phase (s : State) (r : Result) :
    (s.withResult r).phase = s.phase := rfl
@[simp] theorem State.withResult_result (s : State) (r : Result) :
    (s.withResult r).result = r := rfl
@[simp] theorem State.withResult_localAddr (s : State) (r : Result) :
    (s.withResult r).localAddr = s.localAddr := rfl
@[simp] theorem State.withResult_remoteAddr (s : State) (r : Result) :
    (s.withResult r).remoteAddr = s.remoteAddr := rfl
@[simp] theorem State.withResult_lastActivity (s : State) (r : Result) :
    (s.withResult r).lastActivity = s.lastActivity := rfl
@[simp] theorem State.withResult_synTime (s : State) (r : Result) :
    (s.withResult r).synTime = s.synTime := rfl
@[simp] theorem State.withResult_req (s : State) (r : Result) :
    (s.withResult r).req = s.req := rfl
@[simp] theorem State.withResult_resp (s : State) (r : Result) :
    (s.withResult r).resp = s.resp := rfl
@[simp] theorem State.withResult_rxbuf (s : State) (r : Result) :
    (s.withResult r).rxbuf = s.rxbuf := rfl
@[simp] theorem State.withResult_rxLen (s : State) (r : Result) :
    (s.withResult r).rxLen = s.rxLen := rfl
@[simp] theorem State.withResult_params (s : State) (r : Result) :
    (s.withResult r).params = s.params := rfl
@[simp] theorem State.withResult_outside (s : State) (r : Result) :
    (s.withResult r).outside = s.outside := rfl

/-! ### `withLastActivity` -/

@[simp] theorem State.withLastActivity_tag (s : State) (t : Nat) :
    (s.withLastActivity t).tag = s.tag := rfl
@[simp] theorem State.withLastActivity_localPort (s : State) (t : Nat) :
    (s.withLastActivity t).localPort = s.localPort := rfl
@[simp] theorem State.withLastActivity_remotePort (s : State) (t : Nat) :
    (s.withLastActivity t).remotePort = s.remotePort := rfl
@[simp] theorem State.withLastActivity_S (s : State) (t : Nat) :
    (s.withLastActivity t).S = s.S := rfl
@[simp] theorem State.withLastActivity_R (s : State) (t : Nat) :
    (s.withLastActivity t).R = s.R := rfl
@[simp] theorem State.withLastActivity_localSeq (s : State) (t : Nat) :
    (s.withLastActivity t).localSeq = s.localSeq := rfl
@[simp] theorem State.withLastActivity_remoteSeq (s : State) (t : Nat) :
    (s.withLastActivity t).remoteSeq = s.remoteSeq := rfl
@[simp] theorem State.withLastActivity_phase (s : State) (t : Nat) :
    (s.withLastActivity t).phase = s.phase := rfl
@[simp] theorem State.withLastActivity_result (s : State) (t : Nat) :
    (s.withLastActivity t).result = s.result := rfl
@[simp] theorem State.withLastActivity_localAddr (s : State) (t : Nat) :
    (s.withLastActivity t).localAddr = s.localAddr := rfl
@[simp] theorem State.withLastActivity_remoteAddr (s : State) (t : Nat) :
    (s.withLastActivity t).remoteAddr = s.remoteAddr := rfl
@[simp] theorem State.withLastActivity_lastActivity (s : State) (t : Nat) :
    (s.withLastActivity t).lastActivity = t := rfl
@[simp] theorem State.withLastActivity_synTime (s : State) (t : Nat) :
    (s.withLastActivity t).synTime = s.synTime := rfl
@[simp] theorem State.withLastActivity_req (s : State) (t : Nat) :
    (s.withLastActivity t).req = s.req := rfl
@[simp] theorem State.withLastActivity_resp (s : State) (t : Nat) :
    (s.withLastActivity t).resp = s.resp := rfl
@[simp] theorem State.withLastActivity_rxbuf (s : State) (t : Nat) :
    (s.withLastActivity t).rxbuf = s.rxbuf := rfl
@[simp] theorem State.withLastActivity_rxLen (s : State) (t : Nat) :
    (s.withLastActivity t).rxLen = s.rxLen := rfl
@[simp] theorem State.withLastActivity_params (s : State) (t : Nat) :
    (s.withLastActivity t).params = s.params := rfl
@[simp] theorem State.withLastActivity_outside (s : State) (t : Nat) :
    (s.withLastActivity t).outside = s.outside := rfl

/-! ### `withSynTime` -/

@[simp] theorem State.withSynTime_tag (s : State) (t : Nat) :
    (s.withSynTime t).tag = s.tag := rfl
@[simp] theorem State.withSynTime_localPort (s : State) (t : Nat) :
    (s.withSynTime t).localPort = s.localPort := rfl
@[simp] theorem State.withSynTime_remotePort (s : State) (t : Nat) :
    (s.withSynTime t).remotePort = s.remotePort := rfl
@[simp] theorem State.withSynTime_S (s : State) (t : Nat) :
    (s.withSynTime t).S = s.S := rfl
@[simp] theorem State.withSynTime_R (s : State) (t : Nat) :
    (s.withSynTime t).R = s.R := rfl
@[simp] theorem State.withSynTime_localSeq (s : State) (t : Nat) :
    (s.withSynTime t).localSeq = s.localSeq := rfl
@[simp] theorem State.withSynTime_remoteSeq (s : State) (t : Nat) :
    (s.withSynTime t).remoteSeq = s.remoteSeq := rfl
@[simp] theorem State.withSynTime_phase (s : State) (t : Nat) :
    (s.withSynTime t).phase = s.phase := rfl
@[simp] theorem State.withSynTime_result (s : State) (t : Nat) :
    (s.withSynTime t).result = s.result := rfl
@[simp] theorem State.withSynTime_localAddr (s : State) (t : Nat) :
    (s.withSynTime t).localAddr = s.localAddr := rfl
@[simp] theorem State.withSynTime_remoteAddr (s : State) (t : Nat) :
    (s.withSynTime t).remoteAddr = s.remoteAddr := rfl
@[simp] theorem State.withSynTime_lastActivity (s : State) (t : Nat) :
    (s.withSynTime t).lastActivity = s.lastActivity := rfl
@[simp] theorem State.withSynTime_synTime (s : State) (t : Nat) :
    (s.withSynTime t).synTime = t := rfl
@[simp] theorem State.withSynTime_req (s : State) (t : Nat) :
    (s.withSynTime t).req = s.req := rfl
@[simp] theorem State.withSynTime_resp (s : State) (t : Nat) :
    (s.withSynTime t).resp = s.resp := rfl
@[simp] theorem State.withSynTime_rxbuf (s : State) (t : Nat) :
    (s.withSynTime t).rxbuf = s.rxbuf := rfl
@[simp] theorem State.withSynTime_rxLen (s : State) (t : Nat) :
    (s.withSynTime t).rxLen = s.rxLen := rfl
@[simp] theorem State.withSynTime_params (s : State) (t : Nat) :
    (s.withSynTime t).params = s.params := rfl
@[simp] theorem State.withSynTime_outside (s : State) (t : Nat) :
    (s.withSynTime t).outside = s.outside := rfl

/-! ### `withTransfer` -/

@[simp] theorem State.withTransfer_tag (s : State) (la ra : Addr) (q : Bytes) :
    (s.withTransfer la ra q).tag = s.tag := rfl
@[simp] theorem State.withTransfer_localPort (s : State) (la ra : Addr) (q : Bytes) :
    (s.withTransfer la ra q).localPort = s.localPort := rfl
@[simp] theorem State.withTransfer_remotePort (s : State) (la ra : Addr) (q : Bytes) :
    (s.withTransfer la ra q).remotePort = s.remotePort := rfl
@[simp] theorem State.withTransfer_S (s : State) (la ra : Addr) (q : Bytes) :
    (s.withTransfer la ra q).S = s.S := rfl
@[simp] theorem State.withTransfer_R (s : State) (la ra : Addr) (q : Bytes) :
    (s.withTransfer la ra q).R = s.R := rfl
@[simp] theorem State.withTransfer_localSeq (s : State) (la ra : Addr) (q : Bytes) :
    (s.withTransfer la ra q).localSeq = s.localSeq := rfl
@[simp] theorem State.withTransfer_remoteSeq (s : State) (la ra : Addr) (q : Bytes) :
    (s.withTransfer la ra q).remoteSeq = s.remoteSeq := rfl
@[simp] theorem State.withTransfer_phase (s : State) (la ra : Addr) (q : Bytes) :
    (s.withTransfer la ra q).phase = s.phase := rfl
@[simp] theorem State.withTransfer_result (s : State) (la ra : Addr) (q : Bytes) :
    (s.withTransfer la ra q).result = s.result := rfl
@[simp] theorem State.withTransfer_localAddr (s : State) (la ra : Addr) (q : Bytes) :
    (s.withTransfer la ra q).localAddr = la := rfl
@[simp] theorem State.withTransfer_remoteAddr (s : State) (la ra : Addr) (q : Bytes) :
    (s.withTransfer la ra q).remoteAddr = ra := rfl
@[simp] theorem State.withTransfer_lastActivity (s : State) (la ra : Addr) (q : Bytes) :
    (s.withTransfer la ra q).lastActivity = s.lastActivity := rfl
@[simp] theorem State.withTransfer_synTime (s : State) (la ra : Addr) (q : Bytes) :
    (s.withTransfer la ra q).synTime = s.synTime := rfl
@[simp] theorem State.withTransfer_req (s : State) (la ra : Addr) (q : Bytes) :
    (s.withTransfer la ra q).req = q := rfl
@[simp] theorem State.withTransfer_resp (s : State) (la ra : Addr) (q : Bytes) :
    (s.withTransfer la ra q).resp = s.resp := rfl
@[simp] theorem State.withTransfer_rxbuf (s : State) (la ra : Addr) (q : Bytes) :
    (s.withTransfer la ra q).rxbuf = s.rxbuf := rfl
@[simp] theorem State.withTransfer_rxLen (s : State) (la ra : Addr) (q : Bytes) :
    (s.withTransfer la ra q).rxLen = s.rxLen := rfl
@[simp] theorem State.withTransfer_params (s : State) (la ra : Addr) (q : Bytes) :
    (s.withTransfer la ra q).params = s.params := rfl
@[simp] theorem State.withTransfer_outside (s : State) (la ra : Addr) (q : Bytes) :
    (s.withTransfer la ra q).outside = s.outside := rfl

/-! ### `withOpened` -/

@[simp] theorem State.withOpened_tag (s : State) (p : Word16) (i : Word32) (rp : Word16) :
    (s.withOpened p i rp).tag = s.tag := rfl
@[simp] theorem State.withOpened_localPort (s : State) (p : Word16) (i : Word32) (rp : Word16) :
    (s.withOpened p i rp).localPort = p := rfl
@[simp] theorem State.withOpened_remotePort (s : State) (p : Word16) (i : Word32) (rp : Word16) :
    (s.withOpened p i rp).remotePort = rp := rfl
@[simp] theorem State.withOpened_S (s : State) (p : Word16) (i : Word32) (rp : Word16) :
    (s.withOpened p i rp).S = i := rfl
@[simp] theorem State.withOpened_R (s : State) (p : Word16) (i : Word32) (rp : Word16) :
    (s.withOpened p i rp).R = s.R := rfl
@[simp] theorem State.withOpened_localSeq (s : State) (p : Word16) (i : Word32) (rp : Word16) :
    (s.withOpened p i rp).localSeq = i := rfl
@[simp] theorem State.withOpened_remoteSeq (s : State) (p : Word16) (i : Word32) (rp : Word16) :
    (s.withOpened p i rp).remoteSeq = s.remoteSeq := rfl
@[simp] theorem State.withOpened_phase (s : State) (p : Word16) (i : Word32) (rp : Word16) :
    (s.withOpened p i rp).phase = s.phase := rfl
@[simp] theorem State.withOpened_result (s : State) (p : Word16) (i : Word32) (rp : Word16) :
    (s.withOpened p i rp).result = s.result := rfl
@[simp] theorem State.withOpened_localAddr (s : State) (p : Word16) (i : Word32) (rp : Word16) :
    (s.withOpened p i rp).localAddr = s.localAddr := rfl
@[simp] theorem State.withOpened_remoteAddr (s : State) (p : Word16) (i : Word32) (rp : Word16) :
    (s.withOpened p i rp).remoteAddr = s.remoteAddr := rfl
@[simp] theorem State.withOpened_lastActivity (s : State) (p : Word16) (i : Word32) (rp : Word16) :
    (s.withOpened p i rp).lastActivity = s.lastActivity := rfl
@[simp] theorem State.withOpened_synTime (s : State) (p : Word16) (i : Word32) (rp : Word16) :
    (s.withOpened p i rp).synTime = s.synTime := rfl
@[simp] theorem State.withOpened_req (s : State) (p : Word16) (i : Word32) (rp : Word16) :
    (s.withOpened p i rp).req = s.req := rfl
@[simp] theorem State.withOpened_resp (s : State) (p : Word16) (i : Word32) (rp : Word16) :
    (s.withOpened p i rp).resp = s.resp := rfl
@[simp] theorem State.withOpened_rxbuf (s : State) (p : Word16) (i : Word32) (rp : Word16) :
    (s.withOpened p i rp).rxbuf = s.rxbuf := rfl
@[simp] theorem State.withOpened_rxLen (s : State) (p : Word16) (i : Word32) (rp : Word16) :
    (s.withOpened p i rp).rxLen = s.rxLen := rfl
@[simp] theorem State.withOpened_params (s : State) (p : Word16) (i : Word32) (rp : Word16) :
    (s.withOpened p i rp).params = s.params := rfl
@[simp] theorem State.withOpened_outside (s : State) (p : Word16) (i : Word32) (rp : Word16) :
    (s.withOpened p i rp).outside = s.outside := rfl

/-! ### `withPeerSeq` -/

@[simp] theorem State.withPeerSeq_tag (s : State) (q : Word32) :
    (s.withPeerSeq q).tag = s.tag := rfl
@[simp] theorem State.withPeerSeq_localPort (s : State) (q : Word32) :
    (s.withPeerSeq q).localPort = s.localPort := rfl
@[simp] theorem State.withPeerSeq_remotePort (s : State) (q : Word32) :
    (s.withPeerSeq q).remotePort = s.remotePort := rfl
@[simp] theorem State.withPeerSeq_S (s : State) (q : Word32) :
    (s.withPeerSeq q).S = s.S := rfl
@[simp] theorem State.withPeerSeq_R (s : State) (q : Word32) :
    (s.withPeerSeq q).R = q := rfl
@[simp] theorem State.withPeerSeq_localSeq (s : State) (q : Word32) :
    (s.withPeerSeq q).localSeq = succ32 s.S := rfl
@[simp] theorem State.withPeerSeq_remoteSeq (s : State) (q : Word32) :
    (s.withPeerSeq q).remoteSeq = q := rfl
@[simp] theorem State.withPeerSeq_phase (s : State) (q : Word32) :
    (s.withPeerSeq q).phase = s.phase := rfl
@[simp] theorem State.withPeerSeq_result (s : State) (q : Word32) :
    (s.withPeerSeq q).result = s.result := rfl
@[simp] theorem State.withPeerSeq_localAddr (s : State) (q : Word32) :
    (s.withPeerSeq q).localAddr = s.localAddr := rfl
@[simp] theorem State.withPeerSeq_remoteAddr (s : State) (q : Word32) :
    (s.withPeerSeq q).remoteAddr = s.remoteAddr := rfl
@[simp] theorem State.withPeerSeq_lastActivity (s : State) (q : Word32) :
    (s.withPeerSeq q).lastActivity = s.lastActivity := rfl
@[simp] theorem State.withPeerSeq_synTime (s : State) (q : Word32) :
    (s.withPeerSeq q).synTime = s.synTime := rfl
@[simp] theorem State.withPeerSeq_req (s : State) (q : Word32) :
    (s.withPeerSeq q).req = s.req := rfl
@[simp] theorem State.withPeerSeq_resp (s : State) (q : Word32) :
    (s.withPeerSeq q).resp = s.resp := rfl
@[simp] theorem State.withPeerSeq_rxbuf (s : State) (q : Word32) :
    (s.withPeerSeq q).rxbuf = s.rxbuf := rfl
@[simp] theorem State.withPeerSeq_rxLen (s : State) (q : Word32) :
    (s.withPeerSeq q).rxLen = s.rxLen := rfl
@[simp] theorem State.withPeerSeq_params (s : State) (q : Word32) :
    (s.withPeerSeq q).params = s.params := rfl
@[simp] theorem State.withPeerSeq_outside (s : State) (q : Word32) :
    (s.withPeerSeq q).outside = s.outside := rfl

/-! ### `withSegment` -/

@[simp] theorem State.withSegment_tag (s : State) (q : Word32) (d : Bytes) :
    (s.withSegment q d).tag = s.tag := rfl
@[simp] theorem State.withSegment_localPort (s : State) (q : Word32) (d : Bytes) :
    (s.withSegment q d).localPort = s.localPort := rfl
@[simp] theorem State.withSegment_remotePort (s : State) (q : Word32) (d : Bytes) :
    (s.withSegment q d).remotePort = s.remotePort := rfl
@[simp] theorem State.withSegment_S (s : State) (q : Word32) (d : Bytes) :
    (s.withSegment q d).S = s.S := rfl
@[simp] theorem State.withSegment_R (s : State) (q : Word32) (d : Bytes) :
    (s.withSegment q d).R = s.R := rfl
@[simp] theorem State.withSegment_localSeq (s : State) (q : Word32) (d : Bytes) :
    (s.withSegment q d).localSeq = s.localSeq := rfl
@[simp] theorem State.withSegment_remoteSeq (s : State) (q : Word32) (d : Bytes) :
    (s.withSegment q d).remoteSeq = q := rfl
@[simp] theorem State.withSegment_phase (s : State) (q : Word32) (d : Bytes) :
    (s.withSegment q d).phase = s.phase := rfl
@[simp] theorem State.withSegment_result (s : State) (q : Word32) (d : Bytes) :
    (s.withSegment q d).result = s.result := rfl
@[simp] theorem State.withSegment_localAddr (s : State) (q : Word32) (d : Bytes) :
    (s.withSegment q d).localAddr = s.localAddr := rfl
@[simp] theorem State.withSegment_remoteAddr (s : State) (q : Word32) (d : Bytes) :
    (s.withSegment q d).remoteAddr = s.remoteAddr := rfl
@[simp] theorem State.withSegment_lastActivity (s : State) (q : Word32) (d : Bytes) :
    (s.withSegment q d).lastActivity = s.lastActivity := rfl
@[simp] theorem State.withSegment_synTime (s : State) (q : Word32) (d : Bytes) :
    (s.withSegment q d).synTime = s.synTime := rfl
@[simp] theorem State.withSegment_req (s : State) (q : Word32) (d : Bytes) :
    (s.withSegment q d).req = s.req := rfl
@[simp] theorem State.withSegment_resp (s : State) (q : Word32) (d : Bytes) :
    (s.withSegment q d).resp = s.resp ++ d := rfl
@[simp] theorem State.withSegment_rxbuf (s : State) (q : Word32) (d : Bytes) :
    (s.withSegment q d).rxbuf = s.rxbuf := rfl
@[simp] theorem State.withSegment_rxLen (s : State) (q : Word32) (d : Bytes) :
    (s.withSegment q d).rxLen = s.rxLen := rfl
@[simp] theorem State.withSegment_params (s : State) (q : Word32) (d : Bytes) :
    (s.withSegment q d).params = s.params := rfl
@[simp] theorem State.withSegment_outside (s : State) (q : Word32) (d : Bytes) :
    (s.withSegment q d).outside = s.outside := rfl

/-! ### `withReceived` -/

@[simp] theorem State.withReceived_tag (s : State) (p : Bytes) :
    (s.withReceived p).tag = s.tag := rfl
@[simp] theorem State.withReceived_localPort (s : State) (p : Bytes) :
    (s.withReceived p).localPort = s.localPort := rfl
@[simp] theorem State.withReceived_remotePort (s : State) (p : Bytes) :
    (s.withReceived p).remotePort = s.remotePort := rfl
@[simp] theorem State.withReceived_S (s : State) (p : Bytes) :
    (s.withReceived p).S = s.S := rfl
@[simp] theorem State.withReceived_R (s : State) (p : Bytes) :
    (s.withReceived p).R = s.R := rfl
@[simp] theorem State.withReceived_localSeq (s : State) (p : Bytes) :
    (s.withReceived p).localSeq = s.localSeq := rfl
@[simp] theorem State.withReceived_remoteSeq (s : State) (p : Bytes) :
    (s.withReceived p).remoteSeq = s.remoteSeq := rfl
@[simp] theorem State.withReceived_phase (s : State) (p : Bytes) :
    (s.withReceived p).phase = s.phase := rfl
@[simp] theorem State.withReceived_result (s : State) (p : Bytes) :
    (s.withReceived p).result = s.result := rfl
@[simp] theorem State.withReceived_localAddr (s : State) (p : Bytes) :
    (s.withReceived p).localAddr = s.localAddr := rfl
@[simp] theorem State.withReceived_remoteAddr (s : State) (p : Bytes) :
    (s.withReceived p).remoteAddr = s.remoteAddr := rfl
@[simp] theorem State.withReceived_lastActivity (s : State) (p : Bytes) :
    (s.withReceived p).lastActivity = s.lastActivity := rfl
@[simp] theorem State.withReceived_synTime (s : State) (p : Bytes) :
    (s.withReceived p).synTime = s.synTime := rfl
@[simp] theorem State.withReceived_req (s : State) (p : Bytes) :
    (s.withReceived p).req = s.req := rfl
@[simp] theorem State.withReceived_resp (s : State) (p : Bytes) :
    (s.withReceived p).resp = s.resp := rfl
@[simp] theorem State.withReceived_rxbuf (s : State) (p : Bytes) :
    (s.withReceived p).rxbuf = Memory.writeBytes s.rxbuf 0 p := rfl
@[simp] theorem State.withReceived_rxLen (s : State) (p : Bytes) :
    (s.withReceived p).rxLen = p.length := rfl
@[simp] theorem State.withReceived_params (s : State) (p : Bytes) :
    (s.withReceived p).params = s.params := rfl
@[simp] theorem State.withReceived_outside (s : State) (p : Bytes) :
    (s.withReceived p).outside = s.outside := rfl

end Sys2Proof.Machine
end

