-- ==== Sys2Proof/Laws/Ops.lean ====
section
/-! SUPPORT. What each collaborator call and the failure entry do, said once: a call changes the outside and
nothing else, and records itself; `receive` also fills the receive buffer. -/

namespace Sys2Proof.Machine

/-- `draw16` changes nothing but the outside. -/
theorem draw16_frame (s : State) : (draw16 s).2 = s.withOutside (draw16 s).2.outside := by
  unfold draw16; split <;> rfl

@[simp] theorem draw16_tag (s : State) : (draw16 s).2.tag = s.tag := by
  rw [draw16_frame]; rfl
@[simp] theorem draw16_localPort (s : State) : (draw16 s).2.localPort = s.localPort := by
  rw [draw16_frame]; rfl
@[simp] theorem draw16_remotePort (s : State) : (draw16 s).2.remotePort = s.remotePort := by
  rw [draw16_frame]; rfl
@[simp] theorem draw16_S (s : State) : (draw16 s).2.S = s.S := by
  rw [draw16_frame]; rfl
@[simp] theorem draw16_R (s : State) : (draw16 s).2.R = s.R := by
  rw [draw16_frame]; rfl
@[simp] theorem draw16_localSeq (s : State) : (draw16 s).2.localSeq = s.localSeq := by
  rw [draw16_frame]; rfl
@[simp] theorem draw16_remoteSeq (s : State) : (draw16 s).2.remoteSeq = s.remoteSeq := by
  rw [draw16_frame]; rfl
@[simp] theorem draw16_phase (s : State) : (draw16 s).2.phase = s.phase := by
  rw [draw16_frame]; rfl
@[simp] theorem draw16_result (s : State) : (draw16 s).2.result = s.result := by
  rw [draw16_frame]; rfl
@[simp] theorem draw16_localAddr (s : State) : (draw16 s).2.localAddr = s.localAddr := by
  rw [draw16_frame]; rfl
@[simp] theorem draw16_remoteAddr (s : State) : (draw16 s).2.remoteAddr = s.remoteAddr := by
  rw [draw16_frame]; rfl
@[simp] theorem draw16_lastActivity (s : State) : (draw16 s).2.lastActivity = s.lastActivity := by
  rw [draw16_frame]; rfl
@[simp] theorem draw16_synTime (s : State) : (draw16 s).2.synTime = s.synTime := by
  rw [draw16_frame]; rfl
@[simp] theorem draw16_req (s : State) : (draw16 s).2.req = s.req := by
  rw [draw16_frame]; rfl
@[simp] theorem draw16_resp (s : State) : (draw16 s).2.resp = s.resp := by
  rw [draw16_frame]; rfl
@[simp] theorem draw16_rxbuf (s : State) : (draw16 s).2.rxbuf = s.rxbuf := by
  rw [draw16_frame]; rfl
@[simp] theorem draw16_rxLen (s : State) : (draw16 s).2.rxLen = s.rxLen := by
  rw [draw16_frame]; rfl
@[simp] theorem draw16_params (s : State) : (draw16 s).2.params = s.params := by
  rw [draw16_frame]; rfl
@[simp] theorem draw16_trace (s : State) :
    (draw16 s).2.outside.trace = s.outside.trace ++ [.draw16 (draw16 s).1] := by
  unfold draw16; split <;> rfl
@[simp] theorem draw16_cmds (s : State) : (draw16 s).2.outside.cmds = s.outside.cmds := by
  unfold draw16; split <;> rfl
@[simp] theorem draw16_draws32 (s : State) : (draw16 s).2.outside.draws32 = s.outside.draws32 := by
  unfold draw16; split <;> rfl
@[simp] theorem draw16_ticks (s : State) : (draw16 s).2.outside.ticks = s.outside.ticks := by
  unfold draw16; split <;> rfl
@[simp] theorem draw16_statuses (s : State) : (draw16 s).2.outside.statuses = s.outside.statuses := by
  unfold draw16; split <;> rfl
@[simp] theorem draw16_packets (s : State) : (draw16 s).2.outside.packets = s.outside.packets := by
  unfold draw16; split <;> rfl
@[simp] theorem draw16_clock (s : State) : (draw16 s).2.outside.clock = s.outside.clock := by
  unfold draw16; split <;> rfl
@[simp] theorem draw16_answer (s : State) : (draw16 s).2.outside.answer = s.outside.answer := by
  unfold draw16; split <;> rfl

/-- `draw32` changes nothing but the outside. -/
theorem draw32_frame (s : State) : (draw32 s).2 = s.withOutside (draw32 s).2.outside := by
  unfold draw32; split <;> rfl

@[simp] theorem draw32_tag (s : State) : (draw32 s).2.tag = s.tag := by
  rw [draw32_frame]; rfl
@[simp] theorem draw32_localPort (s : State) : (draw32 s).2.localPort = s.localPort := by
  rw [draw32_frame]; rfl
@[simp] theorem draw32_remotePort (s : State) : (draw32 s).2.remotePort = s.remotePort := by
  rw [draw32_frame]; rfl
@[simp] theorem draw32_S (s : State) : (draw32 s).2.S = s.S := by
  rw [draw32_frame]; rfl
@[simp] theorem draw32_R (s : State) : (draw32 s).2.R = s.R := by
  rw [draw32_frame]; rfl
@[simp] theorem draw32_localSeq (s : State) : (draw32 s).2.localSeq = s.localSeq := by
  rw [draw32_frame]; rfl
@[simp] theorem draw32_remoteSeq (s : State) : (draw32 s).2.remoteSeq = s.remoteSeq := by
  rw [draw32_frame]; rfl
@[simp] theorem draw32_phase (s : State) : (draw32 s).2.phase = s.phase := by
  rw [draw32_frame]; rfl
@[simp] theorem draw32_result (s : State) : (draw32 s).2.result = s.result := by
  rw [draw32_frame]; rfl
@[simp] theorem draw32_localAddr (s : State) : (draw32 s).2.localAddr = s.localAddr := by
  rw [draw32_frame]; rfl
@[simp] theorem draw32_remoteAddr (s : State) : (draw32 s).2.remoteAddr = s.remoteAddr := by
  rw [draw32_frame]; rfl
@[simp] theorem draw32_lastActivity (s : State) : (draw32 s).2.lastActivity = s.lastActivity := by
  rw [draw32_frame]; rfl
@[simp] theorem draw32_synTime (s : State) : (draw32 s).2.synTime = s.synTime := by
  rw [draw32_frame]; rfl
@[simp] theorem draw32_req (s : State) : (draw32 s).2.req = s.req := by
  rw [draw32_frame]; rfl
@[simp] theorem draw32_resp (s : State) : (draw32 s).2.resp = s.resp := by
  rw [draw32_frame]; rfl
@[simp] theorem draw32_rxbuf (s : State) : (draw32 s).2.rxbuf = s.rxbuf := by
  rw [draw32_frame]; rfl
@[simp] theorem draw32_rxLen (s : State) : (draw32 s).2.rxLen = s.rxLen := by
  rw [draw32_frame]; rfl
@[simp] theorem draw32_params (s : State) : (draw32 s).2.params = s.params := by
  rw [draw32_frame]; rfl
@[simp] theorem draw32_trace (s : State) :
    (draw32 s).2.outside.trace = s.outside.trace ++ [.draw32 (draw32 s).1] := by
  unfold draw32; split <;> rfl
@[simp] theorem draw32_cmds (s : State) : (draw32 s).2.outside.cmds = s.outside.cmds := by
  unfold draw32; split <;> rfl
@[simp] theorem draw32_draws16 (s : State) : (draw32 s).2.outside.draws16 = s.outside.draws16 := by
  unfold draw32; split <;> rfl
@[simp] theorem draw32_ticks (s : State) : (draw32 s).2.outside.ticks = s.outside.ticks := by
  unfold draw32; split <;> rfl
@[simp] theorem draw32_statuses (s : State) : (draw32 s).2.outside.statuses = s.outside.statuses := by
  unfold draw32; split <;> rfl
@[simp] theorem draw32_packets (s : State) : (draw32 s).2.outside.packets = s.outside.packets := by
  unfold draw32; split <;> rfl
@[simp] theorem draw32_clock (s : State) : (draw32 s).2.outside.clock = s.outside.clock := by
  unfold draw32; split <;> rfl
@[simp] theorem draw32_answer (s : State) : (draw32 s).2.outside.answer = s.outside.answer := by
  unfold draw32; split <;> rfl

/-- `now` changes nothing but the outside. -/
theorem now_frame (s : State) : (now s).2 = s.withOutside (now s).2.outside := by
  unfold now; split <;> rfl

@[simp] theorem now_tag (s : State) : (now s).2.tag = s.tag := by
  rw [now_frame]; rfl
@[simp] theorem now_localPort (s : State) : (now s).2.localPort = s.localPort := by
  rw [now_frame]; rfl
@[simp] theorem now_remotePort (s : State) : (now s).2.remotePort = s.remotePort := by
  rw [now_frame]; rfl
@[simp] theorem now_S (s : State) : (now s).2.S = s.S := by
  rw [now_frame]; rfl
@[simp] theorem now_R (s : State) : (now s).2.R = s.R := by
  rw [now_frame]; rfl
@[simp] theorem now_localSeq (s : State) : (now s).2.localSeq = s.localSeq := by
  rw [now_frame]; rfl
@[simp] theorem now_remoteSeq (s : State) : (now s).2.remoteSeq = s.remoteSeq := by
  rw [now_frame]; rfl
@[simp] theorem now_phase (s : State) : (now s).2.phase = s.phase := by
  rw [now_frame]; rfl
@[simp] theorem now_result (s : State) : (now s).2.result = s.result := by
  rw [now_frame]; rfl
@[simp] theorem now_localAddr (s : State) : (now s).2.localAddr = s.localAddr := by
  rw [now_frame]; rfl
@[simp] theorem now_remoteAddr (s : State) : (now s).2.remoteAddr = s.remoteAddr := by
  rw [now_frame]; rfl
@[simp] theorem now_lastActivity (s : State) : (now s).2.lastActivity = s.lastActivity := by
  rw [now_frame]; rfl
@[simp] theorem now_synTime (s : State) : (now s).2.synTime = s.synTime := by
  rw [now_frame]; rfl
@[simp] theorem now_req (s : State) : (now s).2.req = s.req := by
  rw [now_frame]; rfl
@[simp] theorem now_resp (s : State) : (now s).2.resp = s.resp := by
  rw [now_frame]; rfl
@[simp] theorem now_rxbuf (s : State) : (now s).2.rxbuf = s.rxbuf := by
  rw [now_frame]; rfl
@[simp] theorem now_rxLen (s : State) : (now s).2.rxLen = s.rxLen := by
  rw [now_frame]; rfl
@[simp] theorem now_params (s : State) : (now s).2.params = s.params := by
  rw [now_frame]; rfl
@[simp] theorem now_trace (s : State) :
    (now s).2.outside.trace = s.outside.trace ++ [.now (now s).1] := by
  unfold now; split <;> rfl
@[simp] theorem now_cmds (s : State) : (now s).2.outside.cmds = s.outside.cmds := by
  unfold now; split <;> rfl
@[simp] theorem now_draws16 (s : State) : (now s).2.outside.draws16 = s.outside.draws16 := by
  unfold now; split <;> rfl
@[simp] theorem now_draws32 (s : State) : (now s).2.outside.draws32 = s.outside.draws32 := by
  unfold now; split <;> rfl
@[simp] theorem now_statuses (s : State) : (now s).2.outside.statuses = s.outside.statuses := by
  unfold now; split <;> rfl
@[simp] theorem now_packets (s : State) : (now s).2.outside.packets = s.outside.packets := by
  unfold now; split <;> rfl
@[simp] theorem now_answer (s : State) : (now s).2.outside.answer = s.outside.answer := by
  unfold now; split <;> rfl

/-- `send` changes nothing but the outside. -/
theorem send_frame (d : Addr) (k : Bytes) (s : State) : (send d k s).2 = s.withOutside (send d k s).2.outside := by
  unfold send; split <;> rfl

@[simp] theorem send_tag (d : Addr) (k : Bytes) (s : State) : (send d k s).2.tag = s.tag := by
  rw [send_frame]; rfl
@[simp] theorem send_localPort (d : Addr) (k : Bytes) (s : State) : (send d k s).2.localPort = s.localPort := by
  rw [send_frame]; rfl
@[simp] theorem send_remotePort (d : Addr) (k : Bytes) (s : State) : (send d k s).2.remotePort = s.remotePort := by
  rw [send_frame]; rfl
@[simp] theorem send_S (d : Addr) (k : Bytes) (s : State) : (send d k s).2.S = s.S := by
  rw [send_frame]; rfl
@[simp] theorem send_R (d : Addr) (k : Bytes) (s : State) : (send d k s).2.R = s.R := by
  rw [send_frame]; rfl
@[simp] theorem send_localSeq (d : Addr) (k : Bytes) (s : State) : (send d k s).2.localSeq = s.localSeq := by
  rw [send_frame]; rfl
@[simp] theorem send_remoteSeq (d : Addr) (k : Bytes) (s : State) : (send d k s).2.remoteSeq = s.remoteSeq := by
  rw [send_frame]; rfl
@[simp] theorem send_phase (d : Addr) (k : Bytes) (s : State) : (send d k s).2.phase = s.phase := by
  rw [send_frame]; rfl
@[simp] theorem send_result (d : Addr) (k : Bytes) (s : State) : (send d k s).2.result = s.result := by
  rw [send_frame]; rfl
@[simp] theorem send_localAddr (d : Addr) (k : Bytes) (s : State) : (send d k s).2.localAddr = s.localAddr := by
  rw [send_frame]; rfl
@[simp] theorem send_remoteAddr (d : Addr) (k : Bytes) (s : State) : (send d k s).2.remoteAddr = s.remoteAddr := by
  rw [send_frame]; rfl
@[simp] theorem send_lastActivity (d : Addr) (k : Bytes) (s : State) : (send d k s).2.lastActivity = s.lastActivity := by
  rw [send_frame]; rfl
@[simp] theorem send_synTime (d : Addr) (k : Bytes) (s : State) : (send d k s).2.synTime = s.synTime := by
  rw [send_frame]; rfl
@[simp] theorem send_req (d : Addr) (k : Bytes) (s : State) : (send d k s).2.req = s.req := by
  rw [send_frame]; rfl
@[simp] theorem send_resp (d : Addr) (k : Bytes) (s : State) : (send d k s).2.resp = s.resp := by
  rw [send_frame]; rfl
@[simp] theorem send_rxbuf (d : Addr) (k : Bytes) (s : State) : (send d k s).2.rxbuf = s.rxbuf := by
  rw [send_frame]; rfl
@[simp] theorem send_rxLen (d : Addr) (k : Bytes) (s : State) : (send d k s).2.rxLen = s.rxLen := by
  rw [send_frame]; rfl
@[simp] theorem send_params (d : Addr) (k : Bytes) (s : State) : (send d k s).2.params = s.params := by
  rw [send_frame]; rfl
@[simp] theorem send_trace (d : Addr) (k : Bytes) (s : State) :
    (send d k s).2.outside.trace = s.outside.trace ++ [.send d k (send d k s).1] := by
  unfold send; split <;> rfl
@[simp] theorem send_cmds (d : Addr) (k : Bytes) (s : State) : (send d k s).2.outside.cmds = s.outside.cmds := by
  unfold send; split <;> rfl
@[simp] theorem send_draws16 (d : Addr) (k : Bytes) (s : State) : (send d k s).2.outside.draws16 = s.outside.draws16 := by
  unfold send; split <;> rfl
@[simp] theorem send_draws32 (d : Addr) (k : Bytes) (s : State) : (send d k s).2.outside.draws32 = s.outside.draws32 := by
  unfold send; split <;> rfl
@[simp] theorem send_ticks (d : Addr) (k : Bytes) (s : State) : (send d k s).2.outside.ticks = s.outside.ticks := by
  unfold send; split <;> rfl
@[simp] theorem send_packets (d : Addr) (k : Bytes) (s : State) : (send d k s).2.outside.packets = s.outside.packets := by
  unfold send; split <;> rfl
@[simp] theorem send_clock (d : Addr) (k : Bytes) (s : State) : (send d k s).2.outside.clock = s.outside.clock := by
  unfold send; split <;> rfl
@[simp] theorem send_answer (d : Addr) (k : Bytes) (s : State) : (send d k s).2.outside.answer = s.outside.answer := by
  unfold send; split <;> rfl

/-- `draw16` answers the script's head and takes it off. -/
theorem draw16_of_script {s : State} {v : Word16} {vs : List Word16} (h : s.outside.draws16 = v :: vs) :
    (draw16 s).1 = v ∧ (draw16 s).2.outside.draws16 = vs := by
  simp [draw16, h]

/-- `draw32` answers the script's head and takes it off. -/
theorem draw32_of_script {s : State} {v : Word32} {vs : List Word32} (h : s.outside.draws32 = v :: vs) :
    (draw32 s).1 = v ∧ (draw32 s).2.outside.draws32 = vs := by
  simp [draw32, h]

/-- `now` goes forward by the script's head and takes it off. -/
theorem now_of_script {s : State} {d : Nat} {ds : List Nat} (h : s.outside.ticks = d :: ds) :
    (now s).1 = s.outside.clock + d ∧ (now s).2.outside.ticks = ds := by
  simp [now, h]

/-- `send` answers the script's head and takes it off. -/
theorem send_of_script {s : State} {d : Addr} {k : Bytes} {st : Nat} {sts : List Nat}
    (h : s.outside.statuses = st :: sts) :
    (send d k s).1 = st ∧ (send d k s).2.outside.statuses = sts := by
  simp [send, h]

/-- The value `now` returned is the clock after it (R196). -/
@[simp] theorem now_clock (s : State) : (now s).2.outside.clock = (now s).1 := by
  unfold now; split <;> rfl

/-- `now` never goes back (R201). -/
theorem clock_le_now (s : State) : s.outside.clock ≤ (now s).1 := by
  unfold now; split <;> simp

/-- All that `receive` can do: take one packet of at most `RX_BUF_BYTES` bytes into the receive buffer and
record the call, with nothing else of the state changed (R199). -/
theorem receive_ok {s s' : State} (h : receive s = .ok s') :
    ∃ p o, p.length ≤ Config.rxBufBytes ∧ s' = (s.withReceived p).withOutside o ∧
      o.trace = s.outside.trace ++ [.receive p] ∧ o.clock = s.outside.clock ∧
      o.cmds = s.outside.cmds ∧ o.draws16 = s.outside.draws16 ∧ o.draws32 = s.outside.draws32 ∧
      o.ticks = s.outside.ticks ∧ o.statuses = s.outside.statuses ∧ o.answer = s.outside.answer ∧
      (∀ q ∈ o.packets, q ∈ s.outside.packets) := by
  unfold receive at h
  split at h
  · rename_i p rest hp
    split at h
    · rename_i hl
      cases h
      refine ⟨p, _, hl, rfl, rfl, rfl, rfl, rfl, rfl, rfl, rfl, rfl, ?_⟩
      intro q hq
      simpa [hp] using Or.inr hq
    · cases h
  · rename_i hp
    cases h
    refine ⟨_, _, List.length_take_le _ _, rfl, rfl, rfl, rfl, rfl, rfl, rfl, rfl, rfl, ?_⟩
    intro q hq
    simp [hp] at hq

/-- `receive` faults only where the channel breaks its duty (R202). -/
theorem receive_error {s : State} {f : Fault} (h : receive s = .error f) :
    f = .receiveOverrun ∧ ∃ p rest, s.outside.packets = p :: rest ∧ Config.rxBufBytes < p.length := by
  unfold receive at h
  split at h
  · rename_i p rest hp
    split at h
    · cases h
    · cases h
      exact ⟨rfl, p, rest, hp, by omega⟩
  · cases h

@[simp] theorem raiseFail_tag (kind : FailKind) (s : State) : (raiseFail kind s).tag = .closed := rfl
@[simp] theorem raiseFail_phase (kind : FailKind) (s : State) : (raiseFail kind s).phase = .done := rfl
@[simp] theorem raiseFail_result (kind : FailKind) (s : State) : (raiseFail kind s).result = kind.result := rfl
@[simp] theorem raiseFail_localPort (kind : FailKind) (s : State) : (raiseFail kind s).localPort = s.localPort := rfl
@[simp] theorem raiseFail_remotePort (kind : FailKind) (s : State) : (raiseFail kind s).remotePort = s.remotePort := rfl
@[simp] theorem raiseFail_S (kind : FailKind) (s : State) : (raiseFail kind s).S = s.S := rfl
@[simp] theorem raiseFail_R (kind : FailKind) (s : State) : (raiseFail kind s).R = s.R := rfl
@[simp] theorem raiseFail_localSeq (kind : FailKind) (s : State) : (raiseFail kind s).localSeq = s.localSeq := rfl
@[simp] theorem raiseFail_remoteSeq (kind : FailKind) (s : State) : (raiseFail kind s).remoteSeq = s.remoteSeq := rfl
@[simp] theorem raiseFail_localAddr (kind : FailKind) (s : State) : (raiseFail kind s).localAddr = s.localAddr := rfl
@[simp] theorem raiseFail_remoteAddr (kind : FailKind) (s : State) : (raiseFail kind s).remoteAddr = s.remoteAddr := rfl
@[simp] theorem raiseFail_lastActivity (kind : FailKind) (s : State) : (raiseFail kind s).lastActivity = s.lastActivity := rfl
@[simp] theorem raiseFail_synTime (kind : FailKind) (s : State) : (raiseFail kind s).synTime = s.synTime := rfl
@[simp] theorem raiseFail_req (kind : FailKind) (s : State) : (raiseFail kind s).req = s.req := rfl
@[simp] theorem raiseFail_resp (kind : FailKind) (s : State) : (raiseFail kind s).resp = s.resp := rfl
@[simp] theorem raiseFail_rxbuf (kind : FailKind) (s : State) : (raiseFail kind s).rxbuf = s.rxbuf := rfl
@[simp] theorem raiseFail_rxLen (kind : FailKind) (s : State) : (raiseFail kind s).rxLen = s.rxLen := rfl
@[simp] theorem raiseFail_params (kind : FailKind) (s : State) : (raiseFail kind s).params = s.params := rfl
@[simp] theorem raiseFail_outside (kind : FailKind) (s : State) : (raiseFail kind s).outside = s.outside := rfl

end Sys2Proof.Machine
end

