-- ==== Sys2Proof/Laws/Orchestrator.lean ====
section
/-! SUPPORT. The shared operations of the phase steps, each said once: a phase step's guard, a sending step, a
delivery in each waiting phase, and the two timers as comparisons. -/

namespace Sys2Proof.Machine

/-- A phase step's guard. -/
theorem atPhase_iff (ph : Phase) (s : State) : atPhase ph s = true ↔ s.phase = ph ∧ s.tag = ph.tag := by
  simp [atPhase]

/-- The outside after a sending step has drawn its identification and handed its packet over. -/
def outsideAfterSend (kind : DescKind) (s : State) : Outside :=
  (send s.remoteAddr (pkt (descOf kind s) s).1 (pkt (descOf kind s) s).2).2.outside

/-- The status a sending step gets. -/
def statusOfSend (kind : DescKind) (s : State) : Nat :=
  (send s.remoteAddr (pkt (descOf kind s) s).1 (pkt (descOf kind s) s).2).1

/-- All that a sending step can do: the outside changed by one draw and one `send`, and then the failure or
`onOk` (R154, R156, R157, R159). -/
theorem sendPacket_eq (kind : DescKind) (onOk : State → State) (s : State) :
    sendPacket kind onOk s =
      if statusOfSend kind s = 0 then onOk (s.withOutside (outsideAfterSend kind s))
      else raiseFail .transmission (s.withOutside (outsideAfterSend kind s)) := by
  have e1 : (pkt (descOf kind s) s).2 = s.withOutside (draw16 s).2.outside := draw16_frame s
  have e : (send s.remoteAddr (pkt (descOf kind s) s).1 (pkt (descOf kind s) s).2).2 =
      s.withOutside (outsideAfterSend kind s) := by
    rw [send_frame]
    unfold outsideAfterSend
    rw [e1]
    rfl
  unfold sendPacket
  simp only [e]
  by_cases h : statusOfSend kind s = 0
  · rw [if_pos h, if_neg]
    simpa [statusIsError, statusOfSend] using h
  · rw [if_neg h, if_pos]
    simpa [statusIsError, statusOfSend] using h

/-- All that a shorthand performed alone can do: one draw and the packet answered (R82, R152). -/
theorem answerPacket_eq (d : Desc) (s : State) :
    answerPacket d s =
      s.withOutside
        { (draw16 s).2.outside with answer := .buffer (packetOf d (draw16 s).1 s) } :=
  congrArg (fun t => t.withAnswer (.buffer (packetOf d (draw16 s).1 s))) (draw16_frame s)

/-- A packet that parses, in `PH_WAIT_SYNACK`. -/
theorem deliverInWait_some {t : Nat} {s : State} {seg : TcpSegment} (h : tcpParse s.received = some seg) :
    deliverInWait t s =
      if matchSeg seg s then (csmSynAck seg s).withPhase .sendAck else discardInWait t s := by
  unfold deliverInWait
  rw [h]

/-- A packet that does not parse, in `PH_WAIT_SYNACK`. -/
theorem deliverInWait_none {t : Nat} {s : State} (h : tcpParse s.received = none) :
    deliverInWait t s = discardInWait t s := by
  unfold deliverInWait
  rw [h]

/-- A packet that parses, in `PH_RECV`. -/
theorem deliverInRecv_some {s : State} {seg : TcpSegment} (h : tcpParse s.received = some seg) :
    deliverInRecv s =
      if matchSeg seg s then
        if finSet seg.flags then (csmSegment seg s).withPhase .sendFinAck else csmSegment seg s
      else s := by
  unfold deliverInRecv
  rw [h]

/-- A packet that does not parse, in `PH_RECV`. -/
theorem deliverInRecv_none {s : State} (h : tcpParse s.received = none) : deliverInRecv s = s := by
  unfold deliverInRecv
  rw [h]

/-- R195's test is a strict comparison. -/
theorem idleExpired_iff (t : Nat) (s : State) :
    idleExpired t s = true ↔ s.params.idleTimeoutTicks < t - s.lastActivity := decide_eq_true_iff

/-- R194's test is a strict comparison with a finite deadline. -/
theorem handshakeExpired_iff (t : Nat) (s : State) :
    handshakeExpired t s = true ↔
      ∃ h, s.params.handshakeTimeoutTicks = some h ∧ h < t - s.synTime := by
  unfold handshakeExpired
  cases s.params.handshakeTimeoutTicks with
  | none => simp
  | some v =>
    refine ⟨fun h => ⟨v, rfl, of_decide_eq_true h⟩, fun ⟨w, h1, h2⟩ => ?_⟩
    cases h1
    exact decide_eq_true h2

/-- The address and port tests (R153, R169). -/
theorem peerMatch_iff (seg : TcpSegment) (s : State) :
    peerMatch seg s = true ↔
      (s.params.filterEn = true →
        seg.srcAddr = s.remoteAddr ∧ seg.sport = s.remotePort ∧ seg.dport = s.localPort) := by
  unfold peerMatch
  cases s.params.filterEn <;> simp [and_assoc]

/-- `MATCH` is called in the two waiting phases only; anywhere else the model's function answers false. -/
theorem matchSeg_elsewhere {seg : TcpSegment} {s : State} (h1 : s.phase ≠ .waitSynAck)
    (h2 : s.phase ≠ .recv) : matchSeg seg s = false := by
  unfold matchSeg
  split <;> simp_all

end Sys2Proof.Machine
end

