-- ==== Sys2Proof/Laws/Packets.lean ====
section
/-! SUPPORT. The checksum's arithmetic on numbers, the two-byte write into a buffer, and what the builders and
the parser keep: lengths, untouched bytes, nibbles and flags. -/

namespace Sys2Proof.Machine

/-- What one fold does to a sum of two numbers of at most 0xFFFF (R91). -/
theorem fold_toNat (x : Word32) (h : x.toNat ≤ 0x1FFFE) :
    (fold x).toNat = if x.toNat ≤ 65535 then x.toNat else x.toNat - 65535 := by
  have e1 : (x.extractLsb' 16 16).toNat = x.toNat / 65536 := by
    rw [BitVec.extractLsb'_toNat, Nat.shiftRight_eq_div_pow]
    omega
  have e2 : (x.extractLsb' 0 16).toNat = x.toNat % 65536 := by
    rw [BitVec.extractLsb'_toNat, Nat.shiftRight_eq_div_pow]
    omega
  unfold fold
  split
  · rename_i hne
    have : x.toNat / 65536 ≠ 0 := by
      intro h0
      apply hne
      apply BitVec.eq_of_toNat_eq
      rw [e1, h0]
      rfl
    rw [BitVec.toNat_add, BitVec.toNat_setWidth, BitVec.toNat_setWidth, e1, e2]
    split <;> omega
  · rename_i hne
    have : x.toNat / 65536 = 0 := by
      have := congrArg BitVec.toNat (not_not.1 hne)
      rw [e1] at this
      exact this
    rw [if_pos (by omega)]

/-! ### Two bytes written into a buffer -/

/-- A two-byte write keeps the length. -/
@[simp] theorem length_write16 (B : Bytes) (k : Nat) (v : Word16) : (write16 B k v).length = B.length := by
  simp [write16]

/-- A two-byte write leaves every other byte alone. -/
theorem write16_of_ne (B : Bytes) (k : Nat) (v : Word16) (i : Nat) (h : i ≠ k) (h' : i ≠ k + 1) :
    (write16 B k v)[i]? = B[i]? := by
  simp [write16, Ne.symm h, Ne.symm h']

/-- A two-byte read after the write gives the value written. -/
theorem read16_write16 (B : Bytes) (k : Nat) (v : Word16) (h : k + 1 < B.length) :
    read16 (write16 B k v) k = some v := by
  have a : k < B.length := by omega
  simp [read16, readByte, write16, h, a]

/-- A second write to the same place replaces the first. -/
theorem write16_write16 (B : Bytes) (k : Nat) (v w : Word16) :
    write16 (write16 B k v) k w = write16 B k w := by
  apply List.ext_getElem?
  intro i
  by_cases h1 : i = k
  · subst h1
    simp [write16, List.getElem?_set]
  · by_cases h2 : i = k + 1
    · subst h2
      simp [write16, List.getElem?_set]
    · rw [write16_of_ne _ _ _ _ h1 h2, write16_of_ne _ _ _ _ h1 h2, write16_of_ne _ _ _ _ h1 h2]

/-! ### What finalizing keeps -/

/-- `IPH.FIN` keeps the length. -/
theorem length_iphFin (H : Bytes) : (iphFin H).length = H.length := by simp [iphFin]

/-- `IPH.FIN` touches bytes 10 and 11 only (R103). -/
theorem iphFin_of_ne (H : Bytes) (k : Nat) (h1 : k ≠ 10) (h2 : k ≠ 11) : (iphFin H)[k]? = H[k]? := by
  simp only [iphFin, ipChecksumOffset]
  rw [write16_of_ne _ _ _ _ h1 h2, write16_of_ne _ _ _ _ h1 h2]

/-- `TCP.FIN` keeps the length. -/
theorem length_tcpFin (G : Bytes) (src dst : Addr) : (tcpFin G src dst).length = G.length := by
  simp [tcpFin]

/-- `TCP.FIN` touches bytes 16 and 17 only (R113). -/
theorem tcpFin_of_ne (G : Bytes) (src dst : Addr) (k : Nat) (h1 : k ≠ 16) (h2 : k ≠ 17) :
    (tcpFin G src dst)[k]? = G[k]? := by
  simp only [tcpFin, tcpChecksumOffset]
  rw [write16_of_ne _ _ _ _ h1 h2, write16_of_ne _ _ _ _ h1 h2]

/-- A built header has 20 bytes (R101). -/
theorem length_iphBuild (src dst : Addr) (n : Nat) (ident : Word16) :
    (iphBuild src dst n ident).length = 20 := rfl

/-- A built segment has 20 bytes and its payload (R111). -/
theorem length_tcpBuild (sp dp : Word16) (q a : Word32) (f : BitVec 6) (pl : Bytes) :
    (tcpBuild sp dp q a f pl).length = 20 + pl.length := by
  simp [tcpBuild]
  omega

/-! ### Small fields as numbers -/

theorem lowNibble_toNat (b : Byte) : (lowNibble b).toNat = b.toNat % 16 := by revert b; decide

theorem highNibble_toNat (b : Byte) : (highNibble b).toNat = b.toNat / 16 := by revert b; decide

theorem flagsOfByte_toNat (b : Byte) : (flagsOfByte b).toNat = b.toNat % 64 := by revert b; decide

/-- The FIN test looks at bit 0 (R72). -/
theorem finSet_eq (f : BitVec 6) : finSet f = f.getLsbD 0 := by revert f; decide

/-- The SYN+ACK test looks at bits 1 and 4 (R72). -/
theorem synAckSet_eq (f : BitVec 6) : synAckSet f = (f.getLsbD 1 && f.getLsbD 4) := by revert f; decide

end Sys2Proof.Machine
end

