-- ==== Sys2Proof/Laws/WellFormed.lean ====
section
/-! SUPPORT. What well-formedness says of each instruction that has a check. -/

namespace Sys2Proof

theorem wellFormed_iphBuild (src dst : Addr) (n : Nat) (ident : Word16) :
    (Instr.iphBuild src dst n ident).wellFormed = true ↔ n ≤ 65515 := decide_eq_true_iff

theorem wellFormed_iphFin (H : Bytes) : (Instr.iphFin H).wellFormed = true ↔ H.length = 20 :=
  beq_iff_eq

theorem wellFormed_tcpBuild (sp dp : Word16) (q a : Word32) (f : BitVec 6) (p : Bytes) :
    (Instr.tcpBuild sp dp q a f p).wellFormed = true ↔ p.length ≤ 65495 := decide_eq_true_iff

theorem wellFormed_tcpFin (G : Bytes) (src dst : Addr) :
    (Instr.tcpFin G src dst).wellFormed = true ↔ 20 ≤ G.length ∧ G.length ≤ 65515 := by
  rw [Instr.wellFormed, Bool.and_eq_true, decide_eq_true_iff, decide_eq_true_iff]
  rfl

theorem wellFormed_tcpParse (raw : Bytes) :
    (Instr.tcpParse raw).wellFormed = true ↔ raw.length ≤ 65535 := decide_eq_true_iff

theorem wellFormed_start (la ra : Addr) (rp : Word16) (q : Bytes) (c : Bool) :
    (Instr.start la ra rp q c).wellFormed = true ↔ q.length ≤ 65495 := decide_eq_true_iff

theorem wellFormed_inSynAckTest (f : Byte) :
    (Instr.inSynAckTest f).wellFormed = true ↔ f &&& 0x12 = 0x12 := beq_iff_eq

theorem wellFormed_inFinTest (f : Byte) :
    (Instr.inFinTest f).wellFormed = true ↔ f &&& 0x01 = 0x01 := beq_iff_eq

end Sys2Proof
end

