-- ==== Sys2Proof/Laws/PerInstr.lean ====
section
/-! SUPPORT. Statements made per instruction. `TableBits`: the word of the opcode table that the encoder writes
for a well-formed instruction has the row's match bits under the row's mask (spec/opcode_table.json). -/

namespace Sys2Proof.Laws.TableBits

/-- The word of a command that the table's mask and match speak of: the 16-bit word of a PHASE row, and the
first byte of any other. -/
def tableWord (c : Command) : Word16 :=
  match c.place, c.bytes with
  | .sequencer, [hi, lo] => word16Of hi lo
  | _, b :: _ => b.setWidth 16
  | _, [] => 0

/-- The mask and the match of an instruction's row. -/
def maskAndMatch : Instr → Word16 × Word16
  | .csum _ => (0xFF, 0x10)
  | .iphBuild _ _ _ _ => (0xFF, 0x20)
  | .iphFin _ => (0xFF, 0x21)
  | .tcpBuild _ _ _ _ _ _ => (0xFF, 0x30)
  | .tcpFin _ _ _ => (0xFF, 0x31)
  | .tcpParse _ => (0xFF, 0x32)
  | .csmOpen _ _ _ => (0xFF, 0x40)
  | .csmSynAck _ => (0xFF, 0x41)
  | .csmSegment _ => (0xFF, 0x42)
  | .csmClose => (0xFF, 0x43)
  | .csmAbort => (0xFF, 0x4F)
  | .start _ _ _ _ _ => (0xFF, 0x50)
  | .step => (0xFF, 0x51)
  | .reset => (0xFF, 0x5F)
  | .stepIdle => (0x7FF, 0x288)
  | .stepSendSyn => (0x7FF, 0x289)
  | .stepWaitSynAck => (0x7FF, 0x28A)
  | .stepSendAck => (0x7FF, 0x28B)
  | .stepSendReq => (0x7FF, 0x28C)
  | .stepRecv => (0x7FF, 0x28D)
  | .stepSendFinAck => (0x7FF, 0x28E)
  | .stepDone => (0x7FF, 0x28F)
  | .pktSyn => (0xFF, 0x02)
  | .pktAck => (0xFF, 0x10)
  | .pktReq => (0xFF, 0x18)
  | .pktFinalAck => (0xFF, 0x10)
  | .inSynAckTest _ => (0x12, 0x12)
  | .inFinTest _ => (0x01, 0x01)
  | .ipByte0 => (0xFF, 0x45)
  | .tcpByte12 => (0xFF, 0x50)

/-- A well-formed instruction is encoded with its row's match bits. -/
def Statement (i : Instr) : Prop :=
  i.wellFormed = true → tableWord (encode i) &&& (maskAndMatch i).1 = (maskAndMatch i).2

theorem csum (B : Bytes) : Statement (.csum B) := by
  intro _
  simp only [tableWord, encode, maskAndMatch]
  decide
theorem iphBuild (src dst : Addr) (payloadLength : Nat) (ident : Word16) :
    Statement (.iphBuild src dst payloadLength ident) := by
  intro _
  simp only [tableWord, encode, maskAndMatch]
  decide
theorem iphFin (H : Bytes) : Statement (.iphFin H) := by
  intro _
  simp only [tableWord, encode, maskAndMatch]
  decide
theorem tcpBuild (sourcePort destPort : Word16) (seq ack : Word32) (flags : BitVec 6) (payload : Bytes) :
    Statement (.tcpBuild sourcePort destPort seq ack flags payload) := by
  intro _
  simp only [tableWord, encode, maskAndMatch]
  decide
theorem tcpFin (G : Bytes) (src dst : Addr) : Statement (.tcpFin G src dst) := by
  intro _
  simp only [tableWord, encode, maskAndMatch]
  decide
theorem tcpParse (raw : Bytes) : Statement (.tcpParse raw) := by
  intro _
  simp only [tableWord, encode, maskAndMatch]
  decide
theorem csmOpen (port : Word16) (iss : Word32) (rport : Word16) :
    Statement (.csmOpen port iss rport) := by
  intro _
  simp only [tableWord, encode, maskAndMatch]
  decide
theorem csmSynAck (seg : TcpSegment) : Statement (.csmSynAck seg) := by
  intro _
  simp only [tableWord, encode, maskAndMatch]
  decide
theorem csmSegment (seg : TcpSegment) : Statement (.csmSegment seg) := by
  intro _
  simp only [tableWord, encode, maskAndMatch]
  decide
theorem csmClose : Statement .csmClose := fun _ => by decide
theorem csmAbort : Statement .csmAbort := fun _ => by decide
theorem start (laddr raddr : Addr) (rport : Word16) (request : Bytes) (chanReady : Bool) :
    Statement (.start laddr raddr rport request chanReady) := by
  intro _
  simp only [tableWord, encode, maskAndMatch]
  decide
theorem step : Statement .step := fun _ => by decide
theorem reset : Statement .reset := fun _ => by decide
theorem stepIdle : Statement .stepIdle := fun _ => by decide
theorem stepSendSyn : Statement .stepSendSyn := fun _ => by decide
theorem stepWaitSynAck : Statement .stepWaitSynAck := fun _ => by decide
theorem stepSendAck : Statement .stepSendAck := fun _ => by decide
theorem stepSendReq : Statement .stepSendReq := fun _ => by decide
theorem stepRecv : Statement .stepRecv := fun _ => by decide
theorem stepSendFinAck : Statement .stepSendFinAck := fun _ => by decide
theorem stepDone : Statement .stepDone := fun _ => by decide
theorem pktSyn : Statement .pktSyn := fun _ => by decide
theorem pktAck : Statement .pktAck := fun _ => by decide
theorem pktReq : Statement .pktReq := fun _ => by decide
theorem pktFinalAck : Statement .pktFinalAck := fun _ => by decide
theorem inSynAckTest (flagByte : Byte) : Statement (.inSynAckTest flagByte) := by
  revert flagByte
  unfold Statement
  decide
theorem inFinTest (flagByte : Byte) : Statement (.inFinTest flagByte) := by
  revert flagByte
  unfold Statement
  decide
theorem ipByte0 : Statement .ipByte0 := fun _ => by decide
theorem tcpByte12 : Statement .tcpByte12 := fun _ => by decide

end Sys2Proof.Laws.TableBits
end

