-- ==== Sys2Proof/Tests/Slice0.lean ====
section
/-! SUPPORT. The model's own tests: small theorems on small states. The expected bytes and values are those of
spec/95_test_vectors.md (its section or row stands at each test) or written out by hand from the rule named.
After them, for every obligation that has hypotheses, a witness that meets them. -/

namespace Sys2Proof.Tests

open Sys2Proof.Machine Sys2Proof.Claims Sys2Proof.Safety

/-! ## The example values of 95_test_vectors.md -/

/-- `L`, the local address. -/
def addrL : Addr := ⟨10, 0, 0, 2⟩

/-- `P`, the peer's address. -/
def addrP : Addr := ⟨93, 184, 216, 34⟩

/-- `REQ`, the example request of 37 bytes. -/
def req : Bytes :=
  [0x47, 0x45, 0x54, 0x20, 0x2F, 0x20, 0x48, 0x54, 0x54, 0x50, 0x2F, 0x31, 0x2E, 0x30, 0x0D,
   0x0A, 0x48, 0x6F, 0x73, 0x74, 0x3A, 0x20, 0x65, 0x78, 0x61, 0x6D, 0x70, 0x6C, 0x65, 0x2E,
   0x63, 0x6F, 0x6D, 0x0D, 0x0A, 0x0D, 0x0A]

/-- Section 7: the SYN sent. -/
def kSyn : Bytes :=
  [0x45, 0x00, 0x00, 0x28, 0x12, 0x34, 0x00, 0x00, 0x40, 0x06, 0x28, 0xC0, 0x0A, 0x00, 0x00,
   0x02, 0x5D, 0xB8, 0xD8, 0x22, 0xC0, 0x00, 0x00, 0x50, 0x00, 0x00, 0x03, 0xE8, 0x00, 0x00,
   0x00, 0x00, 0x50, 0x02, 0xFF, 0xFF, 0xAB, 0xCD, 0x00, 0x00]

/-- Section 7: the peer's SYN+ACK. -/
def kSynAck : Bytes :=
  [0x45, 0x00, 0x00, 0x28, 0xAB, 0xCD, 0x00, 0x00, 0x40, 0x06, 0x8F, 0x26, 0x5D, 0xB8, 0xD8,
   0x22, 0x0A, 0x00, 0x00, 0x02, 0x00, 0x50, 0xC0, 0x00, 0x00, 0x00, 0x13, 0x88, 0x00, 0x00,
   0x03, 0xE9, 0x50, 0x12, 0xFF, 0xFF, 0x98, 0x34, 0x00, 0x00]

/-- Section 7: the ACK sent. -/
def kAck : Bytes :=
  [0x45, 0x00, 0x00, 0x28, 0x12, 0x35, 0x00, 0x00, 0x40, 0x06, 0x28, 0xBF, 0x0A, 0x00, 0x00,
   0x02, 0x5D, 0xB8, 0xD8, 0x22, 0xC0, 0x00, 0x00, 0x50, 0x00, 0x00, 0x03, 0xE9, 0x00, 0x00,
   0x13, 0x89, 0x50, 0x10, 0xFF, 0xFF, 0x98, 0x35, 0x00, 0x00]

/-- Section 7: the request packet sent. -/
def kReq : Bytes :=
  [0x45, 0x00, 0x00, 0x4D, 0x12, 0x36, 0x00, 0x00, 0x40, 0x06, 0x28, 0x99, 0x0A, 0x00, 0x00,
   0x02, 0x5D, 0xB8, 0xD8, 0x22, 0xC0, 0x00, 0x00, 0x50, 0x00, 0x00, 0x03, 0xE9, 0x00, 0x00,
   0x13, 0x89, 0x50, 0x18, 0xFF, 0xFF, 0x4F, 0x64, 0x00, 0x00, 0x47, 0x45, 0x54, 0x20, 0x2F,
   0x20, 0x48, 0x54, 0x54, 0x50, 0x2F, 0x31, 0x2E, 0x30, 0x0D, 0x0A, 0x48, 0x6F, 0x73, 0x74,
   0x3A, 0x20, 0x65, 0x78, 0x61, 0x6D, 0x70, 0x6C, 0x65, 0x2E, 0x63, 0x6F, 0x6D, 0x0D, 0x0A,
   0x0D, 0x0A]

/-- Section 7: the peer's second data segment. -/
def kD2 : Bytes :=
  [0x45, 0x00, 0x00, 0x2D, 0xAB, 0xCF, 0x00, 0x00, 0x40, 0x06, 0x8F, 0x1F, 0x5D, 0xB8, 0xD8,
   0x22, 0x0A, 0x00, 0x00, 0x02, 0x00, 0x50, 0xC0, 0x00, 0x00, 0x00, 0x13, 0x9C, 0x00, 0x00,
   0x04, 0x0E, 0x50, 0x18, 0xFF, 0xFF, 0x54, 0x1E, 0x00, 0x00, 0x68, 0x65, 0x6C, 0x6C, 0x6F]

/-- Section 7: the final ACK sent. -/
def kFinAck : Bytes :=
  [0x45, 0x00, 0x00, 0x28, 0x12, 0x37, 0x00, 0x00, 0x40, 0x06, 0x28, 0xBD, 0x0A, 0x00, 0x00,
   0x02, 0x5D, 0xB8, 0xD8, 0x22, 0xC0, 0x00, 0x00, 0x50, 0x00, 0x00, 0x03, 0xE9, 0x00, 0x00,
   0x17, 0x71, 0x50, 0x10, 0xFF, 0xFF, 0x94, 0x4D, 0x00, 0x00]

/-- Section 7: the peer's FIN with a payload (7.7). -/
def kFinPay : Bytes :=
  [0x45, 0x00, 0x00, 0x2B, 0xAB, 0xD1, 0x00, 0x00, 0x40, 0x06, 0x8F, 0x1F, 0x5D, 0xB8, 0xD8,
   0x22, 0x0A, 0x00, 0x00, 0x02, 0x00, 0x50, 0xC0, 0x00, 0x00, 0x00, 0x1B, 0x58, 0x00, 0x00,
   0x04, 0x0E, 0x50, 0x19, 0xFF, 0xFF, 0xC8, 0xBB, 0x00, 0x00, 0x62, 0x79, 0x65]

/-- Section 7: a SYN+ACK from a foreign address. -/
def kForged : Bytes :=
  [0x45, 0x00, 0x00, 0x28, 0x00, 0x02, 0x00, 0x00, 0x40, 0x06, 0x66, 0xC4, 0x0A, 0x00, 0x00,
   0x09, 0x0A, 0x00, 0x00, 0x02, 0x00, 0x50, 0xC0, 0x00, 0x00, 0x00, 0x23, 0x28, 0x00, 0x00,
   0x03, 0xE9, 0x50, 0x12, 0xFF, 0xFF, 0xB4, 0x66, 0x00, 0x00]

/-- The example parameters. -/
def params : Params := ⟨180000, some 180000, true⟩

/-- After `RESET`, with the example parameters. -/
def fresh : State := { State.reset with params := params }

/-- After step 1 of program 7.1. -/
def opened : State :=
  { fresh with
    localAddr := addrL, remoteAddr := addrP, req := req, localPort := 0xC000, remotePort := 80
    S := 1000, localSeq := 1000, tag := .synSent, phase := .sendSyn }

/-- After step 2 of program 7.1. -/
def waiting : State :=
  { opened with
    lastActivity := 100, synTime := 100, phase := .waitSynAck
    outside := { Outside.reset with clock := 100 } }

/-- After step 4 of program 7.1, the phase given. -/
def up (ph : Phase) : State :=
  { waiting with
    lastActivity := 200, R := 5000, remoteSeq := 5000, localSeq := 1001, tag := .established
    phase := ph, outside := { Outside.reset with clock := 200 } }

/-- After step 9 of program 7.1, without its response. -/
def closing : State := { up .sendFinAck with remoteSeq := 6000, tag := .finWait }

/-- After step 10 of program 7.1, without its response. -/
def ended : State := { closing with tag := .closed, result := .success, phase := .done }

/-- A state whose next draw is `v` and whose next `send` gets the status `st`. -/
def sending (s : State) (v : Word16) (st : Nat) : State :=
  { s with outside := { s.outside with draws16 := [v], statuses := [st], ticks := [100] } }

/-- A state about to receive `p`, `d` ticks after the last reading of the clock. -/
def receiving (s : State) (p : Bytes) (d : Nat) : State :=
  { s with outside := { s.outside with packets := [p], ticks := [d] } }

/-- A state whose next command is `c`. -/
def issued (s : State) (c : Command) : State := { s with outside := { s.outside with cmds := [c] } }

/-- What is looked at of a next state; none where there is no next state. -/
def look {α : Type} (o : Host.Outcome State Fault Refusal) (f : State → α) : Option α :=
  match o with
  | .next t => some (f t)
  | .fault _ => none
  | .refused _ => none

/-- What an operation answers its caller. -/
def answerOf (i : Instr) (s : State) : Option Answer := look (exec i s) (fun t => t.outside.answer)

/-- Whether an outcome is this refusal. -/
def refusedAs (o : Host.Outcome State Fault Refusal) (r : Refusal) : Bool :=
  match o with
  | .next _ => false
  | .fault _ => false
  | .refused r' => r' == r


/-! ## Well-formedness: one ill-formed term for each check -/

theorem test_ill_iphBuild : (Instr.iphBuild addrL addrP 65516 0).wellFormed = false := by decide
theorem test_ill_iphFin_short : (Instr.iphFin (List.replicate 19 0)).wellFormed = false := by decide
theorem test_ill_iphFin_long : (Instr.iphFin (List.replicate 21 0)).wellFormed = false := by decide
theorem test_ill_tcpBuild :
    (Instr.tcpBuild 1 2 3 4 0 (List.replicate 65496 0)).wellFormed = false := by rw [Instr.wellFormed, List.length_replicate]; decide
theorem test_ill_tcpFin_short :
    (Instr.tcpFin (List.replicate 19 0) addrL addrP).wellFormed = false := by decide
theorem test_ill_tcpFin_long :
    (Instr.tcpFin (List.replicate 65516 0) addrL addrP).wellFormed = false := by rw [Instr.wellFormed, List.length_replicate]; decide
theorem test_ill_tcpParse :
    (Instr.tcpParse (List.replicate 65536 0)).wellFormed = false := by rw [Instr.wellFormed, List.length_replicate]; decide
theorem test_ill_start :
    (Instr.start addrL addrP 80 (List.replicate 65496 0) true).wellFormed = false := by rw [Instr.wellFormed, List.length_replicate]; decide
theorem test_ill_inSynAckTest : (Instr.inSynAckTest 0x10).wellFormed = false := by decide
theorem test_ill_inFinTest : (Instr.inFinTest 0x12).wellFormed = false := by decide

/-! ## Decoding: words written out from R79, R77, R70, R72, R82, R61, R64; every constructor -/

theorem test_decode_csum : decode .caller [0x10, 0xAB, 0xCD] = .ok (.csum [0xAB, 0xCD]) := by decide
theorem test_decode_iphBuild :
    decode .caller [0x20, 0x0A, 0x00, 0x00, 0x02, 0x5D, 0xB8, 0xD8, 0x22, 0x00, 0x14, 0x12, 0x34] = .ok (.iphBuild addrL addrP 20 0x1234) := by decide
theorem test_decode_iphFin :
    decode .caller [0x21, 0x07, 0x07, 0x07, 0x07, 0x07, 0x07, 0x07, 0x07, 0x07, 0x07, 0x07, 0x07, 0x07, 0x07, 0x07, 0x07, 0x07, 0x07, 0x07, 0x07] =
    .ok (.iphFin (List.replicate 20 0x07)) := by decide
theorem test_decode_tcpBuild :
    decode .caller [0x30, 0xC0, 0x00, 0x00, 0x50, 0x00, 0x00, 0x03, 0xE8, 0x00, 0x00, 0x13, 0x89, 0x18, 0x61, 0x62] =
    .ok (.tcpBuild 0xC000 80 1000 5001 0x18 [0x61, 0x62]) := by decide
theorem test_decode_tcpFin :
    decode .caller [0x31, 0x0A, 0x00, 0x00, 0x02, 0x5D, 0xB8, 0xD8, 0x22, 0xAA, 0xBB] = .ok (.tcpFin [0xAA, 0xBB] addrL addrP) := by decide
theorem test_decode_tcpParse :
    decode .caller [0x32, 0x45, 0x00] = .ok (.tcpParse [0x45, 0x00]) := by decide
theorem test_decode_csmOpen :
    decode .event [0x40, 0xC0, 0x00, 0x00, 0x00, 0x03, 0xE8, 0x00, 0x50] = .ok (.csmOpen 0xC000 1000 80) := by decide
theorem test_decode_csmSynAck :
    decode .event [0x41, 0x5D, 0xB8, 0xD8, 0x22, 0x0A, 0x00, 0x00, 0x02, 0x00, 0x50, 0xC0, 0x00, 0x00, 0x00, 0x13, 0x88, 0x00, 0x00, 0x03, 0xE9, 0x05, 0x12] =
    .ok (.csmSynAck ⟨addrP, addrL, 80, 0xC000, 5000, 1001, 5, 0x12, []⟩) := by decide
theorem test_decode_csmSegment :
    decode .event [0x42, 0x5D, 0xB8, 0xD8, 0x22, 0x0A, 0x00, 0x00, 0x02, 0x00, 0x50, 0xC0, 0x00, 0x00, 0x00, 0x13, 0x89, 0x00, 0x00, 0x04, 0x0E, 0x05, 0x18, 0x68] =
    .ok (.csmSegment ⟨addrP, addrL, 80, 0xC000, 5001, 1038, 5, 0x18, [0x68]⟩) := by decide
theorem test_decode_csmClose : decode .event [0x43] = .ok (.csmClose) := by decide
theorem test_decode_csmAbort : decode .event [0x4F] = .ok (.csmAbort) := by decide
theorem test_decode_start :
    decode .caller [0x50, 0x0A, 0x00, 0x00, 0x02, 0x5D, 0xB8, 0xD8, 0x22, 0x00, 0x50, 0x01, 0x47] = .ok (.start addrL addrP 80 [0x47] true) := by decide
theorem test_decode_step : decode .caller [0x51] = .ok (.step) := by decide
theorem test_decode_reset : decode .caller [0x5F] = .ok (.reset) := by decide
theorem test_decode_stepIdle : decode .sequencer [0x02, 0x88] = .ok (.stepIdle) := by decide
theorem test_decode_stepSendSyn : decode .sequencer [0x02, 0x89] = .ok (.stepSendSyn) := by decide
theorem test_decode_stepWaitSynAck :
    decode .sequencer [0x02, 0x8A] = .ok (.stepWaitSynAck) := by decide
theorem test_decode_stepSendAck : decode .sequencer [0x02, 0x8B] = .ok (.stepSendAck) := by decide
theorem test_decode_stepSendReq : decode .sequencer [0x02, 0x8C] = .ok (.stepSendReq) := by decide
theorem test_decode_stepRecv : decode .sequencer [0x02, 0x8D] = .ok (.stepRecv) := by decide
theorem test_decode_stepSendFinAck :
    decode .sequencer [0x02, 0x8E] = .ok (.stepSendFinAck) := by decide
theorem test_decode_stepDone : decode .sequencer [0x02, 0x8F] = .ok (.stepDone) := by decide
theorem test_decode_pktSyn : decode (.built .sendSyn) [0x02] = .ok (.pktSyn) := by decide
theorem test_decode_pktAck : decode (.built .sendAck) [0x10] = .ok (.pktAck) := by decide
theorem test_decode_pktReq : decode (.built .sendReq) [0x18] = .ok (.pktReq) := by decide
theorem test_decode_pktFinalAck :
    decode (.built .sendFinAck) [0x10] = .ok (.pktFinalAck) := by decide
theorem test_decode_inSynAckTest :
    decode (.inbound .waitSynAck) [0x1A] = .ok (.inSynAckTest 0x1A) := by decide
theorem test_decode_inFinTest : decode (.inbound .recv) [0x19] = .ok (.inFinTest 0x19) := by decide
theorem test_decode_ipByte0 : decode .ipHeader0 [0x45] = .ok (.ipByte0) := by decide
theorem test_decode_tcpByte12 : decode .tcpHeader12 [0x50] = .ok (.tcpByte12) := by decide

/-! ## Decoding: what is refused -/

/-- Bits 7..6 of a flag operand are zero (R70, R112). -/
theorem test_decode_flag_bit7 :
    decode .caller [0x30, 0, 1, 0, 2, 0, 0, 0, 3, 0, 0, 0, 4, 0x82] = .error .operandBits := by decide
theorem test_decode_extra_operand : decode .caller [0x51, 0x00] = .error .operandLength := by decide
theorem test_decode_missing_operand :
    decode .caller [0x20, 10, 0, 0] = .error .operandLength := by decide
/-- Row 6.19: SYN alone is no SYN+ACK. -/
theorem test_decode_inbound_syn_only :
    decode (.inbound .waitSynAck) [0x02] = .error .notThisPattern := by decide
theorem test_decode_table_phase : decodeTableWord 11 0x28D = some .stepRecv := by decide
theorem test_decode_table_op :
    decodeTableWord 8 0x21 = some (.iphFin (List.replicate 20 0)) := by decide

/-! ## One step of each instruction -/

/-- Row 2.8. -/
theorem test_csum_odd :
    answerOf (.csum [0x12, 0x34, 0x56]) fresh = some (.word 0x97CB) := by decide +kernel
/-- Row 2.9. -/
theorem test_csum_folds :
    answerOf (.csum [0x00, 0x01, 0xF2, 0x03, 0xF4, 0xF5, 0xF6, 0xF7]) fresh = some (.word 0x220D) := by decide +kernel
/-- Row 3.4 before `IPH.FIN`. -/
theorem test_iphBuild :
    answerOf (.iphBuild addrL addrP 65515 0xFFFF) fresh = some (.buffer [0x45, 0x00, 0xFF, 0xFF, 0xFF, 0xFF, 0x00, 0x00, 0x40, 0x06, 0x00, 0x00, 0x0A, 0x00, 0x00, 0x02, 0x5D, 0xB8, 0xD8, 0x22]) := by decide +kernel
/-- Row 3.6: the field is zeroed first. -/
theorem test_iphFin :
    answerOf (.iphFin [0x45, 0x00, 0x00, 0x28, 0x12, 0x34, 0x00, 0x00, 0x40, 0x06, 0xDE, 0xAD, 0x0A, 0x00, 0x00, 0x02, 0x5D, 0xB8, 0xD8, 0x22]) fresh = some (.buffer [0x45, 0x00, 0x00, 0x28, 0x12, 0x34, 0x00, 0x00, 0x40, 0x06, 0x28, 0xC0, 0x0A, 0x00, 0x00, 0x02, 0x5D, 0xB8, 0xD8, 0x22]) := by decide +kernel
/-- Row 4.8: all six flags. -/
theorem test_tcpBuild :
    answerOf (.tcpBuild 1 2 3 4 0x3F []) fresh = some (.buffer [0x00, 0x01, 0x00, 0x02, 0x00, 0x00, 0x00, 0x03, 0x00, 0x00, 0x00, 0x04, 0x50, 0x3F, 0xFF, 0xFF, 0x00, 0x00, 0x00, 0x00]) := by decide +kernel
/-- Row 4.2: an odd length. -/
theorem test_tcpFin_odd :
    answerOf (.tcpFin (tcpBuild 1 2 3 4 0x18 [0x61, 0x62, 0x63]) ⟨1, 2, 3, 4⟩ ⟨5, 6, 7, 8⟩) fresh = some (.buffer [0x00, 0x01, 0x00, 0x02, 0x00, 0x00, 0x00, 0x03, 0x00, 0x00, 0x00, 0x04, 0x50, 0x18, 0xFF, 0xFF, 0xDB, 0x49, 0x00, 0x00, 0x61, 0x62, 0x63]) := by decide +kernel
/-- Row 5.5: the IPv4 options are skipped. -/
theorem test_tcpParse_options :
    answerOf (.tcpParse [0x46, 0x00, 0x00, 0x00, 0x00, 0x00, 0x00, 0x00, 0x00, 0x06, 0x00, 0x00, 0x5D, 0xB8, 0xD8, 0x22, 0x0A, 0x00, 0x00, 0x02, 0x00, 0x00, 0x00, 0x00, 0x00, 0x50, 0xC0, 0x00, 0x00, 0x00, 0x00, 0x07, 0x00, 0x00, 0x00, 0x08, 0x50, 0x18, 0xFF, 0xFF, 0x00, 0x00, 0x00, 0x00, 0x78, 0x79, 0x7A]) fresh = some (.segment (some ⟨addrP, addrL, 80, 0xC000, 7, 8, 5, 0x18, [0x78, 0x79, 0x7A]⟩)) := by decide +kernel
/-- Row 5.2. -/
theorem test_tcpParse_short :
    answerOf (.tcpParse (kSynAck.take 39)) fresh = some (.segment none) := by decide +kernel
/-- Row 6.1. -/
theorem test_csmOpen :
    look (exec (.csmOpen 0xC000 1000 80) fresh) (fun t => (t.tag, t.localPort, t.S, t.localSeq)) =
    some (.synSent, 0xC000, 1000, 1000) := by decide
/-- Row 6.13. -/
theorem test_csmSynAck_wraps :
    look (exec (.csmSynAck ⟨addrP, addrL, 80, 0xC000, 0x7FFFFFFF, 0, 5, 0x12, []⟩)
      { waiting with S := 0xFFFFFFFF }) (fun t => (t.localSeq, t.R, t.remoteSeq, t.tag)) =
    some (0, 0x7FFFFFFF, 0x7FFFFFFF, .established) := by decide
/-- Row 6.11: the payload is appended before the FIN acts. -/
theorem test_csmSegment_fin :
    look (exec (.csmSegment ⟨addrP, addrL, 80, 0xC000, 7000, 1038, 5, 0x19, [0x62]⟩) (up .recv))
      (fun t => (t.remoteSeq, t.resp, t.tag, t.outside.answer)) =
    some (7000, [0x62], .finWait, .flag true) := by decide
/-- Row 6.12: RST is not acted on. -/
theorem test_csmSegment_rst :
    look (exec (.csmSegment ⟨addrP, addrL, 80, 0xC000, 5001, 1038, 5, 0x14, []⟩) (up .recv))
      (fun t => (t.tag, t.outside.answer)) = some (.established, .flag false) := by decide
/-- Row 6.9. -/
theorem test_csmClose :
    look (exec .csmClose closing) (fun t => (t.tag, t.remoteSeq)) = some (.closed, 6000) := by decide
/-- Row 6.15. -/
theorem test_csmAbort :
    look (exec .csmAbort (up .recv)) (fun t => (t.tag, t.phase)) = some (.closed, .recv) := by decide
/-- Program 7.1, step 1. -/
theorem test_start :
    look (exec (.start addrL addrP 80 req true)
      { fresh with outside := { Outside.reset with draws16 := [0xC000], draws32 := [1000] } })
      (fun t => (t.phase, t.localPort, t.S, t.remoteAddr)) = some (.sendSyn, 0xC000, 1000, addrP) := by decide
/-- Program 7.5 (a). -/
theorem test_start_not_ready :
    look (exec (.start addrL addrP 80 req false) fresh) (fun t => (t.result, t.phase, t.req)) =
    some (.failSetup, .done, []) := by decide
/-- Program 7.1, step 11. -/
theorem test_step_done :
    look (exec .step ended) (fun t => (t.phase, t.result)) = some (.done, .success) := by decide
/-- Program 7.5 (d). -/
theorem test_reset :
    look (exec .reset ended) (fun t => (t.tag, t.phase, t.result, t.resp)) =
    some (.closed, .idle, .none, []) := by decide
theorem test_stepIdle : look (exec .stepIdle fresh) (fun t => t.phase) = some .idle := by decide
theorem test_stepDone : look (exec .stepDone ended) (fun t => t.remoteSeq) = some 6000 := by decide
/-- Program 7.1, step 2. -/
theorem test_stepSendSyn :
    look (exec .stepSendSyn (sending opened 0x1234 0)) (fun t => (t.phase, t.outside.trace)) =
    some (.waitSynAck, [.draw16 0x1234, .send addrP kSyn 0, .now 100]) := by decide +kernel
/-- Program 7.5 (b). -/
theorem test_stepSendSyn_error :
    look (exec .stepSendSyn (sending opened 0x1234 1)) (fun t => (t.result, t.phase, t.synTime)) =
    some (.failTransmission, .done, 0) := by decide +kernel
/-- Program 7.1, step 4. -/
theorem test_stepWaitSynAck :
    look (exec .stepWaitSynAck (receiving waiting kSynAck 100))
      (fun t => (t.phase, t.localSeq, t.remoteSeq, t.lastActivity)) =
    some (.sendAck, 1001, 5000, 200) := by decide +kernel
/-- Program 7.4, step 5. -/
theorem test_stepWaitSynAck_forged :
    look (exec .stepWaitSynAck (receiving waiting kForged 30)) (fun t => (t.phase, t.lastActivity)) =
    some (.waitSynAck, 130) := by decide +kernel
/-- Program 7.1, step 5. -/
theorem test_stepSendAck :
    look (exec .stepSendAck (sending (up .sendAck) 0x1235 0)) (fun t => (t.phase, t.outside.trace)) =
    some (.sendReq, [.draw16 0x1235, .send addrP kAck 0]) := by decide +kernel
/-- Program 7.1, step 6. -/
theorem test_stepSendReq :
    look (exec .stepSendReq (sending (up .sendReq) 0x1236 0)) (fun t => (t.phase, t.outside.trace)) =
    some (.recv, [.draw16 0x1236, .send addrP kReq 0]) := by decide +kernel
/-- Program 7.7. -/
theorem test_stepRecv :
    look (exec .stepRecv (receiving (up .recv) kFinPay 100))
      (fun t => (t.phase, t.remoteSeq, t.resp, t.rxLen)) =
    some (.sendFinAck, 7000, [0x62, 0x79, 0x65], 43) := by decide +kernel
/-- Programs 7.2 and 7.3: strictly longer. -/
theorem test_stepRecv_strict :
    look (exec .stepRecv (receiving (up .recv) [] 180000)) (fun t => t.phase) = some .recv ∧
    look (exec .stepRecv (receiving (up .recv) [] 180001)) (fun t => t.result) = some .failIdleTimeout := by decide +kernel
/-- Program 7.1, step 10. -/
theorem test_stepSendFinAck :
    look (exec .stepSendFinAck (sending closing 0x1237 0)) (fun t => (t.result, t.outside.trace)) =
    some (.success, [.draw16 0x1237, .send addrP kFinAck 0]) := by decide +kernel
/-- `K_SYN`. -/
theorem test_pktSyn :
    answerOf (.pktSyn) (sending opened 0x1234 0) = some (.buffer kSyn) := by decide +kernel
/-- R82: the SYN carries `S` after the handshake too, when `local_seq` is `S + 1`. -/
theorem test_pktSyn_after_handshake :
    answerOf (.pktSyn) (sending (up .sendAck) 0x1234 0) = some (.buffer kSyn) := by decide +kernel
/-- `K_ACK`. -/
theorem test_pktAck :
    answerOf (.pktAck) (sending (up .sendAck) 0x1235 0) = some (.buffer kAck) := by decide +kernel
/-- `K_REQ`. -/
theorem test_pktReq :
    answerOf (.pktReq) (sending (up .sendReq) 0x1236 0) = some (.buffer kReq) := by decide +kernel
/-- `K_FACK`. -/
theorem test_pktFinalAck :
    answerOf (.pktFinalAck) (sending closing 0x1237 0) = some (.buffer kFinAck) := by decide +kernel
/-- Rows 6.18 and 5.11: other bits play no part. -/
theorem test_inSynAckTest :
    answerOf (.inSynAckTest 0xDA) fresh = some (.flag true) := by decide +kernel
/-- R72. -/
theorem test_inFinTest : answerOf (.inFinTest 0x18) fresh = some (.flag false) := by decide +kernel
/-- R61. -/
theorem test_ipByte0 : answerOf (.ipByte0) fresh = some (.byte 0x45) := by decide +kernel
/-- R64. -/
theorem test_tcpByte12 : answerOf (.tcpByte12) fresh = some (.byte 0x50) := by decide +kernel

/-! ## The two-byte order, the flag masks and the receive buffer -/

/-- R42. -/
theorem test_be16 : be16 0x1234 = [0x12, 0x34] := by decide
/-- R42. -/
theorem test_be32 : be32 0x12345678 = [0x12, 0x34, 0x56, 0x78] := by decide
/-- R70. -/
theorem test_flag_masks :
    [flagFIN, flagSYN, flagRST, flagPSH, flagACK, flagURG] = [1, 2, 4, 8, 16, 32] := by decide
/-- R26: a shorter packet leaves the bytes behind it. -/
theorem test_rxbuf_keeps_tail :
    Memory.readBytes (Memory.writeBytes (Memory.writeBytes [] 0 [1, 2, 3]) 0 [9, 0]) 0 4 = [9, 0, 3, 0] := by decide
/-- A table word placed where the next step takes it. -/
theorem test_fetch_word :
    look (step ((State.reset).withFetchWord 11 0x28F)) (fun t => t.phase) = some .done := by decide

/-! ## Witnesses: for every obligation with hypotheses, states and operands that meet them -/

/-- `DecodeOfEncodeIsIdentity`: well-formed operands at the ends of their ranges. -/
theorem witness_decodeOfEncode :
    (Instr.iphBuild addrL addrP 65515 0).wellFormed = true ∧
    (Instr.iphFin (List.replicate 20 0)).wellFormed = true ∧
    (Instr.tcpFin (List.replicate 20 0) addrL addrP).wellFormed = true ∧
    (Instr.inSynAckTest 0x12).wellFormed = true ∧ (Instr.inFinTest 0xFF).wellFormed = true := by decide

/-- The longest well-formed operands. -/
theorem witness_decodeOfEncode_longest :
    (Instr.tcpBuild 1 2 3 4 0x3F (List.replicate 65495 0)).wellFormed = true ∧
    (Instr.tcpFin (List.replicate 65515 0) addrL addrP).wellFormed = true ∧
    (Instr.tcpParse (List.replicate 65535 0)).wellFormed = true ∧
    (Instr.start addrL addrP 80 (List.replicate 65495 0) true).wellFormed = true := by
  simp only [Instr.wellFormed, List.length_replicate]
  decide

/-- `DecodedCommandsEncodeBack`. -/
theorem witness_decodedCommands : decode .caller [0x51] = .ok .step := by decide

/-- `UnusedAndForbiddenCodesRefused`, each clause. -/
theorem witness_unusedCodes :
    ((issued fresh ⟨.caller, [0x4F]⟩).outside.cmds = ⟨.caller, [0x4F]⟩ :: [] ∧
      (0x4F : Byte) ∈ [0x40, 0x41, 0x42, 0x43, 0x4F]) ∧
    ((issued fresh ⟨.caller, [0x44, 1]⟩).outside.cmds = ⟨.caller, [0x44, 1]⟩ :: [] ∧
      (0x44 : Byte) ∉ [0x10, 0x20, 0x21, 0x30, 0x31, 0x32, 0x40, 0x41, 0x42, 0x43, 0x4F, 0x50, 0x51,
        0x5F]) := by decide

/-- `StepRunsTheDecodedCommand`, each clause. -/
theorem witness_stepRuns :
    ((issued fresh ⟨.caller, [0x5F]⟩).outside.cmds = ⟨.caller, [0x5F]⟩ :: [] ∧
      decode .caller [0x5F] = .ok .reset) ∧
    ((issued fresh ⟨.caller, [0x5F, 0]⟩).outside.cmds = ⟨.caller, [0x5F, 0]⟩ :: [] ∧
      decode .caller [0x5F, 0] = .error .operandLength) ∧
    fresh.outside.cmds = [] := by decide

/-- `CsumArithmeticFacts`: the greatest folded sum; two orders of two words. -/
theorem witness_csumFacts :
    (0xFFFF : Word32).toNat ≤ 0xFFFF ∧ ([1, 2] : List Word16).Perm [2, 1] := by decide

/-- `ChecksumVerifiesItself`: row 2.16, an odd length with the field at the even offset 2. -/
theorem witness_checksumVerifies :
    2 % 2 = 0 ∧ 2 + 1 < ([0xAA, 0xBB, 0, 0, 0xCC] : Bytes).length ∧
    ([0xAA, 0xBB, 0, 0, 0xCC] : Bytes)[2]? = some 0 ∧
    ([0xAA, 0xBB, 0, 0, 0xCC] : Bytes)[2 + 1]? = some 0 := by decide

/-- `IphBuildLaysOutTheHeader`, `FinalizedHeaderVerifies`, `IphFinPatchesTheChecksum`. -/
theorem witness_header : 65515 ≤ 65515 ∧ (List.replicate 20 (0xFF : Byte)).length = 20 := by decide

/-- `TcpBuildLaysOutTheSegment`, `TcpFinPatchesTheChecksum`, `FinalizedSegmentVerifies`,
`ParseOfBuiltPacketGivesOperandsBack`, `PacketsAreFinalAndParseBack`: the longest and the shortest. -/
theorem witness_segment :
    (List.replicate 65495 (0 : Byte)).length ≤ 65495 ∧
    20 ≤ (List.replicate 20 (0 : Byte)).length ∧ (List.replicate 65515 (0 : Byte)).length ≤ 65515 := by
  simp only [List.length_replicate]
  decide

/-- `ParsedFieldsAreTheBuffers`: row 5.4. -/
theorem witness_parsedFields :
    look (exec (.tcpParse kSynAck) fresh) (fun t => t.outside.answer) =
      some (.segment (some ⟨addrP, addrL, 80, 0xC000, 5000, 1001, 5, 0x12, []⟩)) := by decide +kernel

/-- `ParseReadsNothingElse`: two different buffers, the second with another time to live and window. -/
theorem witness_parseReadsNothingElse :
    ∃ raw raw' : Bytes, raw ≠ raw' ∧ raw.length = raw'.length ∧
      (raw.getD 0 0).toNat % 16 = (raw'.getD 0 0).toNat % 16 ∧
      (∀ k, 12 ≤ k → k < 20 → raw[k]? = raw'[k]?) ∧
      (∀ k, (raw.getD 0 0).toNat % 16 * 4 ≤ k → k < (raw.getD 0 0).toNat % 16 * 4 + 12 →
        raw[k]? = raw'[k]?) ∧
      (raw.getD ((raw.getD 0 0).toNat % 16 * 4 + 12) 0).toNat / 16 =
        (raw'.getD ((raw.getD 0 0).toNat % 16 * 4 + 12) 0).toNat / 16 ∧
      (raw.getD ((raw.getD 0 0).toNat % 16 * 4 + 13) 0).toNat % 64 =
        (raw'.getD ((raw.getD 0 0).toNat % 16 * 4 + 13) 0).toNat % 64 ∧
      (∀ k, (raw.getD 0 0).toNat % 16 * 4 +
        (raw.getD ((raw.getD 0 0).toNat % 16 * 4 + 12) 0).toNat / 16 * 4 ≤ k → raw[k]? = raw'[k]?) := by
  have e0 : (kSynAck.getD 0 0).toNat % 16 = 5 := by decide
  have e1 : (kSynAck.getD 32 0).toNat / 16 = 5 := by decide
  have away : ∀ k, k ≠ 8 → k ≠ 35 → kSynAck[k]? = ((kSynAck.set 8 1).set 35 7)[k]? := by
    intro k h8 h35
    rw [List.getElem?_set_ne (Ne.symm h35), List.getElem?_set_ne (Ne.symm h8)]
  refine ⟨kSynAck, (kSynAck.set 8 1).set 35 7, by decide, by decide, by decide, ?_, ?_, by decide,
    by decide, ?_⟩
  · intro k h1 h2
    exact away k (by omega) (by omega)
  · intro k h1 h2
    exact away k (by omega) (by omega)
  · intro k h1
    rw [e0] at h1
    simp only [show 5 * 4 + 12 = 32 from rfl, e1] at h1
    exact away k (by omega) (by omega)

/-- `OperandsOutOfRangeRefused`, each clause just outside its range. -/
theorem witness_outOfRange :
    65515 < 65516 ∧ (List.replicate 19 (0 : Byte)).length ≠ 20 ∧
    (List.replicate 21 (0 : Byte)).length ≠ 20 ∧
    65495 < (List.replicate 65496 (0 : Byte)).length ∧ (List.replicate 19 (0 : Byte)).length < 20 ∧
    65515 < (List.replicate 65516 (0 : Byte)).length ∧
    65495 < ({ up .sendReq with req := List.replicate 65496 0 } : State).req.length := by
  simp only [List.length_replicate]
  decide

/-- `UnitOperationsAreFunctionsOfTheirOperands`. -/
theorem witness_unitOperation :
    isUnitOperation (.csum [1]) = true ∧
    exec (.csum [1]) fresh = .next (answered fresh (.word (csum [1]))) := ⟨rfl, rfl⟩

/-- The events inside their preconditions (`CsmOpenWritesTheConnection` and the four after it). -/
theorem witness_events :
    (fresh.tag = .closed ∧ fresh.phase = .idle) ∧ waiting.tag = .synSent ∧
    (up .recv).tag = .established ∧ closing.tag = .finWait := by decide

/-- `StartOpensTheConnection`, `StartWithoutChannelFails`. -/
theorem witness_start :
    fresh.phase = .idle ∧ fresh.tag = .closed ∧ req.length ≤ 65495 := by decide

/-- `OutsideItsPreconditionRefused`, each clause. -/
theorem witness_outsidePrecondition :
    ¬ ((up .recv).tag = .closed ∧ (up .recv).phase = .idle) ∧ (up .recv).tag ≠ .synSent ∧
    waiting.tag ≠ .established ∧ (up .recv).tag ≠ .finWait ∧ ended.phase ≠ .idle ∧
    (fresh.phase = .idle ∧ 65495 < (List.replicate 65496 (0 : Byte)).length) := by
  rw [List.length_replicate]
  decide

/-- `StepSelectsByPhase`, the two clauses with hypotheses. -/
theorem witness_stepSelects : fresh.phase = .idle ∧ ended.phase = .done := by decide

/-- `PhaseStepsStopElsewhere`: a state outside each phase step's guard; one in the right phase with another
tag; and, for the last clause, a packet one byte too long in each waiting phase. -/
theorem witness_phaseStepsStop :
    ended.phase ≠ .idle ∧ ¬ (fresh.phase = .sendSyn ∧ fresh.tag = .synSent) ∧
    ¬ (fresh.phase = .waitSynAck ∧ fresh.tag = .synSent) ∧
    ¬ (fresh.phase = .sendAck ∧ fresh.tag = .established) ∧
    ¬ (fresh.phase = .sendReq ∧ fresh.tag = .established) ∧
    ¬ (({ up .recv with tag := .closed } : State).phase = .recv ∧
        ({ up .recv with tag := .closed } : State).tag = .established) ∧
    ¬ (fresh.phase = .sendFinAck ∧ fresh.tag = .finWait) ∧ fresh.phase ≠ .done ∧
    65535 < (List.replicate 65536 (0 : Byte)).length ∧
    (receiving waiting (List.replicate 65536 0) 1).outside.packets = List.replicate 65536 0 :: [] ∧
    (waiting.phase = .waitSynAck ∧ waiting.tag = .synSent) ∧
    ((up .recv).phase = .recv ∧ (up .recv).tag = .established) := by
  refine ⟨by decide, by decide, by decide, by decide, by decide, by decide, by decide, by decide, ?_, rfl,
    by decide, by decide⟩
  rw [List.length_replicate]
  decide

/-- The sending steps inside their guards, and the request at and above its bound. -/
theorem witness_sending :
    (opened.phase = .sendSyn ∧ opened.tag = .synSent) ∧
    ((up .sendAck).phase = .sendAck ∧ (up .sendAck).tag = .established) ∧
    ((up .sendReq).phase = .sendReq ∧ (up .sendReq).tag = .established ∧
      (up .sendReq).req.length ≤ 65495) ∧
    (closing.phase = .sendFinAck ∧ closing.tag = .finWait) := by decide

/-- `SendReqStepSendsTheRequest`, its second clause. -/
theorem witness_sendReq_tooLong :
    ({ up .sendReq with req := List.replicate 65496 0 } : State).phase = .sendReq ∧
    ({ up .sendReq with req := List.replicate 65496 0 } : State).tag = .established ∧
    65495 < ({ up .sendReq with req := List.replicate 65496 0 } : State).req.length := by
  rw [List.length_replicate]
  decide

/-- `WaitOnNoDataLooksAtTheTimers`: one tick over the interval, and exactly at it. -/
theorem witness_waitNoData :
    Delivers (receiving waiting [] 180001) .waitSynAck [] [] 180001 [] ∧
    idlePassed (receiving waiting [] 180001) 180101 ∧
    Delivers (receiving waiting [] 180000) .waitSynAck [] [] 180000 [] ∧
    ¬ (idlePassed (receiving waiting [] 180000) 180100 ∨
        deadlinePassed (receiving waiting [] 180000) 180100) := by
  unfold idlePassed
  refine ⟨⟨rfl, rfl, rfl, rfl⟩, by decide, ⟨rfl, rfl, rfl, rfl⟩, ?_⟩
  rintro (h | ⟨_, h, h'⟩)
  · exact absurd h (by decide)
  · cases h
    exact absurd h' (by decide)

/-- The same after a discarded packet at 150. -/
def waitingLater : State :=
  { waiting with lastActivity := 150, outside := { Outside.reset with clock := 150 } }

/-- The deadline has passed although the idle interval has not. -/
theorem witness_waitNoData_deadline :
    Delivers (receiving waitingLater [] 179951) .waitSynAck [] [] 179951 [] ∧
    deadlinePassed (receiving waitingLater [] 179951) 180101 ∧
    ¬ idlePassed (receiving waitingLater [] 179951) 180101 := by
  unfold idlePassed
  exact ⟨⟨rfl, rfl, rfl, rfl⟩, ⟨180000, rfl, by decide⟩, by decide⟩

/-- `WaitAcceptsTheMatchingSynAck`: program 7.1, step 4. -/
theorem witness_waitAccepts :
    Delivers (receiving waiting kSynAck 100) .waitSynAck kSynAck [] 100 [] ∧
    Memory.wf (receiving waiting kSynAck 100).rxbuf ∧ kSynAck.length ≤ 65535 ∧
    tcpParse kSynAck = some ⟨addrP, addrL, 80, 0xC000, 5000, 1001, 5, 0x12, []⟩ ∧
    acceptedInWait (receiving waiting kSynAck 100) ⟨addrP, addrL, 80, 0xC000, 5000, 1001, 5, 0x12, []⟩ :=
  ⟨⟨rfl, rfl, rfl, rfl⟩, Memory.wf_nil, by decide, by decide +kernel,
    fun _ => ⟨rfl, rfl, rfl⟩, rfl, rfl, rfl⟩

/-- `WaitDiscardsEverythingElse`: program 7.4, step 5, before and after the deadline. -/
theorem witness_waitDiscards (d : Nat) (hd : d = 30 ∨ d = 180001) :
    Delivers (receiving waiting kForged d) .waitSynAck kForged [] d [] ∧
    Memory.wf (receiving waiting kForged d).rxbuf ∧ 0 < kForged.length ∧ kForged.length ≤ 65535 ∧
    (∀ seg, tcpParse kForged = some seg → ¬ acceptedInWait (receiving waiting kForged d) seg) ∧
    (d = 30 → ¬ deadlinePassed (receiving waiting kForged d) (100 + d)) ∧
    (d = 180001 → deadlinePassed (receiving waiting kForged d) (100 + d)) := by
  have parsed : tcpParse kForged =
      some ⟨⟨10, 0, 0, 9⟩, addrL, 80, 0xC000, 9000, 1001, 5, 0x12, []⟩ := by decide +kernel
  refine ⟨⟨rfl, rfl, rfl, rfl⟩, Memory.wf_nil, by decide, by decide, ?_, ?_, ?_⟩
  · intro seg h hacc
    rw [parsed] at h
    cases h
    rcases hd with rfl | rfl <;> exact absurd (hacc.1 rfl).1 (by decide)
  · rintro rfl ⟨_, h, h'⟩
    cases h
    exact absurd h' (by decide)
  · rintro rfl
    exact ⟨180000, rfl, by decide⟩

/-- `RecvOnNoDataLooksAtTheWatchdog`: programs 7.2 and 7.3. -/
theorem witness_recvNoData :
    Delivers (receiving (up .recv) [] 180001) .recv [] [] 180001 [] ∧
    idlePassed (receiving (up .recv) [] 180001) 180201 ∧
    Delivers (receiving (up .recv) [] 180000) .recv [] [] 180000 [] ∧
    ¬ idlePassed (receiving (up .recv) [] 180000) 180200 := by
  unfold idlePassed
  exact ⟨⟨rfl, rfl, rfl, rfl⟩, by decide, ⟨rfl, rfl, rfl, rfl⟩, by decide⟩

/-- `RecvAcceptsThePeersSegment`: `K_D2` without FIN, `K_FINPAY` with FIN. -/
theorem witness_recvAccepts :
    (Delivers (receiving (up .recv) kD2 10) .recv kD2 [] 10 [] ∧
      Memory.wf (receiving (up .recv) kD2 10).rxbuf ∧ kD2.length ≤ 65535 ∧
      tcpParse kD2 =
        some ⟨addrP, addrL, 80, 0xC000, 5020, 1038, 5, 0x18, [0x68, 0x65, 0x6C, 0x6C, 0x6F]⟩ ∧
      fromPeer (receiving (up .recv) kD2 10)
        ⟨addrP, addrL, 80, 0xC000, 5020, 1038, 5, 0x18, [0x68, 0x65, 0x6C, 0x6C, 0x6F]⟩) ∧
    tcpParse kFinPay =
      some ⟨addrP, addrL, 80, 0xC000, 7000, 1038, 5, 0x19, [0x62, 0x79, 0x65]⟩ :=
  ⟨⟨⟨rfl, rfl, rfl, rfl⟩, Memory.wf_nil, by decide, by decide +kernel, fun _ => ⟨rfl, rfl, rfl⟩⟩,
    by decide +kernel⟩

/-- `RecvSkipsEverythingElse`: a packet too short to parse, and a foreign one. -/
theorem witness_recvSkips :
    (Delivers (receiving (up .recv) [0x45] 1) .recv [0x45] [] 1 [] ∧
      Memory.wf (receiving (up .recv) [0x45] 1).rxbuf ∧ 0 < ([0x45] : Bytes).length ∧
      tcpParse [0x45] = none) ∧
    (∀ seg, tcpParse kForged = some seg → ¬ fromPeer (receiving (up .recv) kForged 1) seg) := by
  have parsed : tcpParse kForged =
      some ⟨⟨10, 0, 0, 9⟩, addrL, 80, 0xC000, 9000, 1001, 5, 0x12, []⟩ := by decide +kernel
  refine ⟨⟨⟨rfl, rfl, rfl, rfl⟩, Memory.wf_nil, by decide, by decide⟩, ?_⟩
  intro seg h hacc
  rw [parsed] at h
  cases h
  exact absurd (hacc rfl).1 (by decide)

/-- `ReceiveWritesTheDeliveredBytesOnly`, both clauses. -/
theorem witness_receiveWrites :
    (∃ t, exec .stepRecv (receiving (up .recv) kD2 10) = .next t) ∧
    Memory.wf (receiving (up .recv) kD2 10).rxbuf ∧
    (receiving (up .recv) kD2 10).outside.packets = kD2 :: [] ∧
    (∃ t, exec .csmAbort fresh = .next t) :=
  ⟨⟨_, rfl⟩, Memory.wf_nil, rfl, ⟨_, rfl⟩⟩

/-- `ShorthandsBuildTheirPackets`: all four rows with a request that fits, and the three that do not ask for
it with one that does not. -/
theorem witness_shorthands :
    (∀ i ∈ [Instr.pktSyn, .pktAck, .pktReq, .pktFinalAck],
      i = .pktReq → (up .sendReq).req.length ≤ 65495) ∧
    (∀ i ∈ [Instr.pktSyn, .pktAck, .pktFinalAck],
      i = .pktReq → ({ fresh with req := List.replicate 65496 0 } : State).req.length ≤ 65495) := by
  constructor <;> decide

/-- The invariant in a connection being opened, the next command a `RESET`. -/
theorem witness_inv_reset : BlockInv (issued waiting ⟨.caller, [0x5F]⟩) := by
  constructor <;> decide

/-- The invariant in a waiting state with a packet to come. -/
theorem witness_inv_wait : BlockInv (receiving waiting kSynAck 100) := by
  constructor <;> decide

/-- The invariant in a receiving state with a response. -/
theorem witness_inv_recv : BlockInv (receiving { up .recv with resp := [1] } kD2 10) := by
  constructor <;> decide

/-- The invariant in a sending state. -/
theorem witness_inv_sending : BlockInv (sending opened 0x1234 0) := by
  constructor <;> decide

/-- The invariant after a transfer. -/
theorem witness_inv_ended : BlockInv ended := by
  constructor <;> decide

/-- `EveryStepKeepsTheInvariant` and the rules about one step: each of the states above has a next one. -/
theorem witness_steps :
    (∃ t, step (issued waiting ⟨.caller, [0x5F]⟩) = .next t) ∧
    (∃ t, step (receiving waiting kSynAck 100) = .next t) ∧
    (∃ t, step (receiving { up .recv with resp := [1] } kD2 10) = .next t) ∧
    (∃ t, step (sending opened 0x1234 0) = .next t) ∧ (∃ t, step ended = .next t) :=
  ⟨⟨_, rfl⟩, ⟨_, rfl⟩, ⟨_, rfl⟩, ⟨_, rfl⟩, ⟨_, rfl⟩⟩

/-- `PhaseFollowsTheGraph`: a unit operation issued in a sending phase leaves it, a `RESET` makes it `PH_IDLE`,
and with nothing issued the step moves it along an edge. -/
theorem witness_phaseGraph :
    (BlockInv (issued opened ⟨.caller, [0x10]⟩) ∧
      unitOperationIssued (issued opened ⟨.caller, [0x10]⟩) ∧
      look (step (issued opened ⟨.caller, [0x10]⟩)) (fun t => t.phase) = some .sendSyn) ∧
    (resetIssued (issued waiting ⟨.caller, [0x5F]⟩) ∧
      look (step (issued waiting ⟨.caller, [0x5F]⟩)) (fun t => t.phase) = some .idle) ∧
    (¬ unitOperationIssued (sending opened 0x1234 0) ∧ ¬ resetIssued (sending opened 0x1234 0) ∧
      look (step (sending opened 0x1234 0)) (fun t => t.phase) = some .waitSynAck) :=
  ⟨⟨by constructor <;> decide, ⟨_, _, .csum [], rfl, rfl, rfl⟩, by decide +kernel⟩,
    ⟨⟨_, rfl⟩, by decide +kernel⟩,
    ⟨fun ⟨_, _, _, h, _⟩ => (nomatch h), fun ⟨_, h⟩ => (nomatch h), by decide +kernel⟩⟩

/-- `SentPacketsAreFinal`: a step that sends. -/
theorem witness_sentPackets :
    look (step (sending opened 0x1234 0))
      (fun t => t.outside.trace.drop (sending opened 0x1234 0).outside.trace.length) =
      some [.draw16 0x1234, .send addrP kSyn 0, .now 100] := by decide +kernel

/-- `ResultIsWrittenOnce`: a result is written. -/
theorem witness_resultWritten : ended.result ≠ .none := by decide

/-- `HandshakeWaitEndsAtTheDeadline`: one tick past the deadline, a packet still delivered. -/
theorem witness_deadline :
    BlockInv (receiving waiting kForged 180001) ∧ (receiving waiting kForged 180001).phase = .waitSynAck ∧
    (receiving waiting kForged 180001).params.handshakeTimeoutTicks = some 180000 ∧
    (receiving waiting kForged 180001).outside.ticks = 180001 :: [] ∧
    (receiving waiting kForged 180001).synTime + 180000 <
      (receiving waiting kForged 180001).outside.clock + 180001 ∧
    (∃ t, exec .step (receiving waiting kForged 180001) = .next t) :=
  ⟨by constructor <;> decide, rfl, rfl, rfl, by decide, ⟨_, rfl⟩⟩

/-- `ResultSaysHowTheRunEnded`: a run that ends in success, and one whose last `send` reports an error. -/
theorem witness_runEnds :
    BlockInv (sending closing 0x1237 0) ∧ (sending closing 0x1237 0).phase ≠ .done ∧
    look (step (sending closing 0x1237 0)) (fun t => (t.phase, t.result)) = some (.done, .success) ∧
    BlockInv (sending closing 0x1237 9) ∧ (sending closing 0x1237 9).phase ≠ .done ∧
    look (step (sending closing 0x1237 9)) (fun t => (t.phase, t.result)) =
      some (.done, .failTransmission) :=
  ⟨by constructor <;> decide, by decide, by decide +kernel, by constructor <;> decide, by decide,
    by decide +kernel⟩

end Sys2Proof.Tests
end

section
/-! PROOFS. The scope of the block (00_scope.md): which operation a step performs, and the purity of the six
unit operations. -/

namespace Sys2Proof.Machine

open Sys2Proof.Claims

/-! ### What a step performs (R7, R162) -/

theorem fetch_of_decoded {s : State} {c : Command} {cs : List Command} {i : Instr}
    (hc : s.outside.cmds = c :: cs) (hd : decode c.place c.bytes = .ok i) :
    fetch s = .ok (i, s.withCmds cs) := by
  simp only [fetch, hc, hd]

theorem fetch_of_undecodable {s : State} {c : Command} {cs : List Command} {e : DecodeError}
    (hc : s.outside.cmds = c :: cs) (hd : decode c.place c.bytes = .error e) :
    fetch s = .error (.undecodable e) := by
  simp only [fetch, hc, hd]

theorem fetch_of_noCommand {s : State} (hc : s.outside.cmds = []) : fetch s = .ok (.step, s) := by
  simp only [fetch, hc]

theorem step_of_decoded {s : State} {c : Command} {cs : List Command} {i : Instr}
    (hc : s.outside.cmds = c :: cs) (hd : decode c.place c.bytes = .ok i) :
    step s = exec i (s.withCmds cs) := by
  simp only [step, fetch_of_decoded hc hd]

theorem step_of_undecodable {s : State} {c : Command} {cs : List Command} {e : DecodeError}
    (hc : s.outside.cmds = c :: cs) (hd : decode c.place c.bytes = .error e) :
    step s = .refused (.undecodable e) := by
  simp only [step, fetch_of_undecodable hc hd]

theorem step_of_noCommand {s : State} (hc : s.outside.cmds = []) : step s = exec .step s := by
  simp only [step, fetch_of_noCommand hc]

/-- Settles O5: the three cases of `fetch`, performed. -/
theorem stepRunsTheDecodedCommand : Obligations.StepRunsTheDecodedCommand :=
  ⟨fun _ _ _ _ => step_of_decoded, fun _ _ _ _ => step_of_undecodable, fun _ => step_of_noCommand⟩

/-! ### The unit operations (R8, R90, R100, R110) -/

/-- An operation that gives the same answer in every state, or the same refusal in every state. The answer
is chosen before the state, so it can depend on the operands only. -/
def StateIndependent (f : State → Host.Outcome State Fault Refusal) : Prop :=
  (∃ a, ∀ s, f s = .next (answered s a)) ∨ (∃ r, ∀ s, f s = .refused r)

/-- The form of a unit operation with a bound on its operands (R102, R103, R112, R113): the bound does not
look at the state. -/
theorem stateIndependent_ite (p : Prop) [Decidable p] (a : Answer) (r : Refusal) :
    StateIndependent (fun s => if p then .next (s.withAnswer a) else .refused r) := by
  by_cases hp : p
  · exact .inl ⟨a, fun _ => if_pos hp⟩
  · exact .inr ⟨r, fun _ => if_neg hp⟩

theorem exec_stateIndependent_of_isUnitOperation {i : Instr} (h : isUnitOperation i = true) :
    StateIndependent (exec i) := by
  cases i with
  | csum B => exact .inl ⟨.word (csum B), fun _ => rfl⟩
  | iphBuild src dst n ident => exact stateIndependent_ite ..
  | iphFin H => exact stateIndependent_ite ..
  | tcpBuild sp dp q a f payload => exact stateIndependent_ite ..
  | tcpFin G src dst => exact stateIndependent_ite ..
  | tcpParse raw => exact .inl ⟨.segment (tcpParse raw), fun _ => rfl⟩
  | _ => cases h

theorem StateIndependent.answered_of_next {f : State → Host.Outcome State Fault Refusal}
    (hf : StateIndependent f) {s t : State} (h : f s = .next t) (s' : State) :
    t = answered s t.outside.answer ∧ f s' = .next (answered s' t.outside.answer) := by
  obtain ⟨a, ha⟩ | ⟨r, hr⟩ := hf
  · obtain rfl : answered s a = t := by simpa [ha s] using h
    exact ⟨rfl, ha s'⟩
  · simp [hr s] at h

/-- Settles O21: each unit operation is independent of the state. -/
theorem unitOperationsAreFunctionsOfTheirOperands :
    Obligations.UnitOperationsAreFunctionsOfTheirOperands :=
  fun _ _ s' _ hi h => (exec_stateIndependent_of_isUnitOperation hi).answered_of_next h s'

end Sys2Proof.Machine
end

section
/-! PROOFS. The state (10_state.md): what an operation that completes can do, said once, and what every step
keeps. -/

namespace Sys2Proof.Machine

open Sys2Proof.Claims Sys2Proof.Safety

/-! ### What the collaborators' calls do to the outside -/

/-- The outside `o'` comes after `o` with the collaborator calls `calls` made in between: time has not gone
back (R201), no delivery was added to the channel's script, no command taken. -/
structure Follows (o o' : Outside) (calls : List Call) : Prop where
  trace : o'.trace = o.trace ++ calls
  clock : o.clock ≤ o'.clock
  packets : ∀ p ∈ o'.packets, p ∈ o.packets
  cmds : o'.cmds = o.cmds

theorem Follows.trans {o₁ o₂ o₃ : Outside} {as bs : List Call} (h₁ : Follows o₁ o₂ as)
    (h₂ : Follows o₂ o₃ bs) : Follows o₁ o₃ (as ++ bs) where
  trace := by rw [h₂.trace, h₁.trace, List.append_assoc]
  clock := h₁.clock.trans h₂.clock
  packets := fun p hp => h₁.packets p (h₂.packets p hp)
  cmds := h₂.cmds.trans h₁.cmds

@[simp] theorem State.withOutside_withOutside (s : State) (o o' : Outside) :
    (s.withOutside o).withOutside o' = s.withOutside o' := rfl

theorem follows_withAnswer (s : State) (a : Answer) : Follows s.outside (s.withAnswer a).outside [] :=
  ⟨by simp, le_rfl, fun _ => id, rfl⟩

theorem follows_draw16 (s : State) :
    Follows s.outside (draw16 s).2.outside [Call.draw16 (draw16 s).1] :=
  ⟨by simp, by simp, by simp, by simp⟩

theorem follows_draw32 (s : State) :
    Follows s.outside (draw32 s).2.outside [Call.draw32 (draw32 s).1] :=
  ⟨by simp, by simp, by simp, by simp⟩

theorem follows_now (s : State) :
    Follows s.outside (now s).2.outside [Call.now (now s).2.outside.clock] :=
  ⟨by simp, by simpa using clock_le_now s, by simp, by simp⟩

theorem follows_send (d : Addr) (K : Bytes) (s : State) :
    Follows s.outside (send d K s).2.outside [Call.send d K (send d K s).1] :=
  ⟨by simp, by simp, by simp, by simp⟩

theorem follows_answerPacket (d : Desc) (s : State) :
    Follows s.outside (answerPacket d s).outside [Call.draw16 (draw16 s).1] :=
  (follows_draw16 s).trans (follows_withAnswer (draw16 s).2 _)

/-- The calls of one sending step: the draw of the identification `id`, and the packet of `DESC(kind)` sent
to the peer with the status `st` (R152, R198). -/
def sendCalls (kind : DescKind) (s : State) (id : Word16) (st : Nat) : List Call :=
  [Call.draw16 id, .send s.remoteAddr (packetOf (descOf kind s) id s) st]

theorem follows_outsideAfterSend (kind : DescKind) (s : State) :
    Follows s.outside (outsideAfterSend kind s)
      (sendCalls kind s (draw16 s).1 (statusOfSend kind s)) :=
  (follows_draw16 s).trans (follows_send s.remoteAddr (packetOf (descOf kind s) (draw16 s).1 s) _)

/-! ### What a phase step can do (R154 to R160, R163) -/

/-- A state in which a waiting step has one delivery, `p`, in the receive buffer and has read the clock; it
writes `last_activity` for a packet and leaves it for no-data (R155, R158, R199). -/
inductive Heard (s : State) : State → Prop
  | mk (p : Bytes) (o : Outside) (n : Nat) (hlen : p.length ≤ Config.rxBufBytes)
      (hnext : ∀ q qs, s.outside.packets = q :: qs → p = q)
      (ho : Follows s.outside o [Call.receive p, .now o.clock])
      (hn : n = s.lastActivity ∨ n = o.clock) :
      Heard s (((s.withReceived p).withOutside o).withLastActivity n)

/-- All that a phase step that completes can do in the phase it is performed in. -/
inductive PhaseStepped (s : State) : State → Prop
  | rest (hph : s.phase = .idle ∨ s.phase = .done) : PhaseStepped s s
  | sendFailed (kind : DescKind) (id : Word16) (st : Nat) (o : Outside)
      (hph : s.phase ∈ [Phase.sendSyn, .sendAck, .sendReq, .sendFinAck]) (hst : st ≠ 0)
      (ho : Follows s.outside o (sendCalls kind s id st)) :
      PhaseStepped s (raiseFail .transmission (s.withOutside o))
  | synSent (id : Word16) (o : Outside) (hph : s.phase = .sendSyn)
      (ho : Follows s.outside o (sendCalls .syn s id 0 ++ [Call.now o.clock])) :
      PhaseStepped s ((((s.withOutside o).withLastActivity o.clock).withSynTime o.clock).withPhase
        .waitSynAck)
  | ackSent (id : Word16) (o : Outside) (hph : s.phase = .sendAck)
      (ho : Follows s.outside o (sendCalls .ack s id 0)) :
      PhaseStepped s ((s.withOutside o).withPhase .sendReq)
  | reqSent (id : Word16) (o : Outside) (hph : s.phase = .sendReq)
      (ho : Follows s.outside o (sendCalls .req s id 0)) :
      PhaseStepped s ((s.withOutside o).withPhase .recv)
  | finAckSent (id : Word16) (o : Outside) (hph : s.phase = .sendFinAck)
      (ho : Follows s.outside o (sendCalls .ack s id 0)) :
      PhaseStepped s ((((s.withOutside o).withTag .closed).withResult .success).withPhase .done)
  | waits (u : State) (hu : Heard s u) (hph : s.phase = .waitSynAck ∨ s.phase = .recv) :
      PhaseStepped s u
  | timedOut (kind : FailKind) (u : State) (hu : Heard s u)
      (hph : (s.phase = .waitSynAck ∧ kind = .handshake) ∨ (s.phase = .recv ∧ kind = .idleTimeout)) :
      PhaseStepped s (raiseFail kind u)
  | synAck (seg : TcpSegment) (u : State) (hu : Heard s u) (hph : s.phase = .waitSynAck) :
      PhaseStepped s (((u.withPeerSeq seg.seq).withTag .established).withPhase .sendAck)
  | segment (seg : TcpSegment) (u : State) (hu : Heard s u) (hph : s.phase = .recv)
      (hfin : finSet seg.flags = false) :
      PhaseStepped s (u.withSegment seg.seq seg.payload)
  | lastSegment (seg : TcpSegment) (u : State) (hu : Heard s u) (hph : s.phase = .recv)
      (hfin : finSet seg.flags = true) :
      PhaseStepped s (((u.withSegment seg.seq seg.payload).withTag .finWait).withPhase .sendFinAck)

/-- What `receive` takes is the channel's next delivery (R199). -/
theorem receive_trace_of_script {s s' : State} {p : Bytes} {ps : List Bytes}
    (hp : s.outside.packets = p :: ps) (h : receive s = .ok s') :
    s'.outside.trace = s.outside.trace ++ [Call.receive p] := by
  unfold receive at h
  simp only [hp] at h
  split at h
  · cases h
    rfl
  · cases h

/-- The state when the step has read the clock after its `receive`, for each value `n` that the step may
write to `last_activity`. -/
theorem heard_of_receive {s s' : State} (h : receive s = .ok s') {n : Nat}
    (hn : n = s.lastActivity ∨ n = (now s').1) : Heard s ((now s').2.withLastActivity n) := by
  obtain ⟨p, o, hlen, rfl, htrace, hclock, hcmds, -, -, -, -, -, hpackets⟩ := receive_ok h
  have ho : Follows s.outside o [Call.receive p] := ⟨htrace, hclock.ge, hpackets, hcmds⟩
  have hnow := follows_now ((s.withReceived p).withOutside o)
  rw [now_frame]
  refine .mk p _ n hlen (fun q qs hq => ?_) (ho.trans hnow) (by simpa using hn)
  have : [Call.receive p] = [Call.receive q] :=
    List.append_cancel_left (htrace.symm.trans (receive_trace_of_script hq h))
  simpa using this

theorem heard_of_noData {s s' : State} (h : receive s = .ok s') : Heard s (now s').2 := by
  have hla : (now s').2.withLastActivity s.lastActivity = (now s').2 := by
    obtain ⟨p, o, -, rfl, -⟩ := receive_ok h
    rw [now_frame]
    rfl
  exact hla ▸ heard_of_receive h (.inl rfl)

theorem discardInWait_stepped {s u : State} (hu : Heard s u) (hph : s.phase = .waitSynAck) (t : Nat) :
    PhaseStepped s (discardInWait t u) := by
  unfold discardInWait
  split
  · exact .timedOut .handshake u hu (.inl ⟨hph, rfl⟩)
  · exact .waits u hu (.inl hph)

theorem deliverInWait_stepped {s u : State} (hu : Heard s u) (hph : s.phase = .waitSynAck) (t : Nat) :
    PhaseStepped s (deliverInWait t u) := by
  cases hp : tcpParse u.received with
  | none => exact deliverInWait_none hp ▸ discardInWait_stepped hu hph t
  | some seg =>
    rw [deliverInWait_some hp]
    split
    · exact .synAck seg u hu hph
    · exact discardInWait_stepped hu hph t

theorem pollInWait_stepped {s s' : State} (h : receive s = .ok s') (hph : s.phase = .waitSynAck) :
    PhaseStepped s (pollInWait s') := by
  unfold pollInWait
  dsimp only
  split
  · split
    · exact .timedOut .handshake _ (heard_of_noData h) (.inl ⟨hph, rfl⟩)
    · exact .waits _ (heard_of_noData h) (.inl hph)
  · exact deliverInWait_stepped (heard_of_receive h (.inr rfl)) hph _

theorem deliverInRecv_stepped {s u : State} (hu : Heard s u) (hph : s.phase = .recv) :
    PhaseStepped s (deliverInRecv u) := by
  cases hp : tcpParse u.received with
  | none =>
    rw [deliverInRecv_none hp]
    exact .waits u hu (.inr hph)
  | some seg =>
    rw [deliverInRecv_some hp]
    split
    · by_cases hfin : finSet seg.flags = true
      · simpa only [csmSegment, if_pos hfin] using .lastSegment seg u hu hph hfin
      · simpa only [csmSegment, if_neg hfin] using
          .segment seg u hu hph (Bool.eq_false_iff.2 hfin)
    · exact .waits u hu (.inr hph)

theorem pollInRecv_stepped {s s' : State} (h : receive s = .ok s') (hph : s.phase = .recv) :
    PhaseStepped s (pollInRecv s') := by
  unfold pollInRecv
  dsimp only
  split
  · split
    · exact .timedOut .idleTimeout _ (heard_of_noData h) (.inr ⟨hph, rfl⟩)
    · exact .waits _ (heard_of_noData h) (.inr hph)
  · exact deliverInRecv_stepped (heard_of_receive h (.inr rfl)) hph

/-- The form of an operation with a precondition: where it completes, the precondition held. -/
theorem next_of_guard {c : Prop} [Decidable c] {x : Host.Outcome State Fault Refusal} {r : Refusal}
    {t : State} (h : (if c then x else .refused r) = .next t) : c ∧ x = .next t := by
  split at h
  · exact ⟨‹c›, h⟩
  · cases h

theorem next_of_receiveThen {rest : State → State} {s t : State} (h : receiveThen rest s = .next t) :
    ∃ s', receive s = .ok s' ∧ rest s' = t := by
  unfold receiveThen at h
  split at h
  · exact ⟨_, ‹_›, Host.Outcome.next.inj h⟩
  · cases h

/-- A sending step fails, or goes on as its rule says when the status is ok. -/
theorem sendPacket_stepped {kind : DescKind} {onOk : State → State} {s : State}
    (hph : s.phase ∈ [Phase.sendSyn, .sendAck, .sendReq, .sendFinAck])
    (hok : ∀ id o, Follows s.outside o (sendCalls kind s id 0) →
      PhaseStepped s (onOk (s.withOutside o))) :
    PhaseStepped s (sendPacket kind onOk s) := by
  have ho := follows_outsideAfterSend kind s
  rw [sendPacket_eq]
  split
  · rename_i hst
    exact hok _ _ (hst ▸ ho)
  · exact .sendFailed kind _ _ _ hph ‹_› ho

theorem afterSyn_stepped {s : State} {id : Word16} {o : Outside} (hph : s.phase = .sendSyn)
    (ho : Follows s.outside o (sendCalls .syn s id 0)) : PhaseStepped s (afterSyn (s.withOutside o)) := by
  have hnow := follows_now (s.withOutside o)
  have h := PhaseStepped.synSent id _ hph (ho.trans hnow)
  unfold afterSyn
  dsimp only
  rw [now_frame]
  simpa using h

/-! ### Each phase step, by its rule -/

theorem runIdle_next {s t : State} (h : runIdle s = .next t) : s.phase = .idle ∧ PhaseStepped s t := by
  obtain ⟨hph, ⟨⟩⟩ := next_of_guard h
  exact ⟨hph, .rest (.inl hph)⟩

theorem runSendSyn_next {s t : State} (h : runSendSyn s = .next t) :
    s.phase = .sendSyn ∧ PhaseStepped s t := by
  obtain ⟨hat, ⟨⟩⟩ := next_of_guard h
  obtain ⟨hph, -⟩ := (atPhase_iff _ _).1 hat
  exact ⟨hph, sendPacket_stepped (by simp [hph]) fun _ _ ho => afterSyn_stepped hph ho⟩

theorem runWaitSynAck_next {s t : State} (h : runWaitSynAck s = .next t) :
    s.phase = .waitSynAck ∧ PhaseStepped s t := by
  obtain ⟨hat, hrest⟩ := next_of_guard h
  obtain ⟨hph, -⟩ := (atPhase_iff _ _).1 hat
  obtain ⟨s', hr, rfl⟩ := next_of_receiveThen hrest
  exact ⟨hph, pollInWait_stepped hr hph⟩

theorem runSendAck_next {s t : State} (h : runSendAck s = .next t) :
    s.phase = .sendAck ∧ PhaseStepped s t := by
  obtain ⟨hat, ⟨⟩⟩ := next_of_guard h
  obtain ⟨hph, -⟩ := (atPhase_iff _ _).1 hat
  exact ⟨hph, sendPacket_stepped (by simp [hph]) fun id o ho => .ackSent id o hph ho⟩

theorem runSendReq_next {s t : State} (h : runSendReq s = .next t) :
    s.phase = .sendReq ∧ PhaseStepped s t := by
  obtain ⟨hat, hreq⟩ := next_of_guard h
  obtain ⟨-, ⟨⟩⟩ := next_of_guard hreq
  obtain ⟨hph, -⟩ := (atPhase_iff _ _).1 hat
  exact ⟨hph, sendPacket_stepped (by simp [hph]) fun id o ho => .reqSent id o hph ho⟩

theorem runRecv_next {s t : State} (h : runRecv s = .next t) : s.phase = .recv ∧ PhaseStepped s t := by
  obtain ⟨hat, hrest⟩ := next_of_guard h
  obtain ⟨hph, -⟩ := (atPhase_iff _ _).1 hat
  obtain ⟨s', hr, rfl⟩ := next_of_receiveThen hrest
  exact ⟨hph, pollInRecv_stepped hr hph⟩

theorem runSendFinAck_next {s t : State} (h : runSendFinAck s = .next t) :
    s.phase = .sendFinAck ∧ PhaseStepped s t := by
  obtain ⟨hat, ⟨⟩⟩ := next_of_guard h
  obtain ⟨hph, -⟩ := (atPhase_iff _ _).1 hat
  exact ⟨hph, sendPacket_stepped (by simp [hph]) fun id o ho => .finAckSent id o hph ho⟩

theorem runDone_next {s t : State} (h : runDone s = .next t) : s.phase = .done ∧ PhaseStepped s t := by
  obtain ⟨hph, ⟨⟩⟩ := next_of_guard h
  exact ⟨hph, .rest (.inr hph)⟩

/-- `STEP` performs the step of the phase (R162). -/
theorem execStep_next {s t : State} (h : execStep s = .next t) : PhaseStepped s t := by
  unfold execStep at h
  split at h
  · exact (runIdle_next h).2
  · exact (runSendSyn_next h).2
  · exact (runWaitSynAck_next h).2
  · exact (runSendAck_next h).2
  · exact (runSendReq_next h).2
  · exact (runRecv_next h).2
  · exact (runSendFinAck_next h).2
  · exact (runDone_next h).2

/-! ### What each instruction can do -/

/-- The eight rows of the table that are wire patterns (R61, R64, R72, R82). -/
def isWirePattern : Instr → Bool
  | .pktSyn | .pktAck | .pktReq | .pktFinalAck | .inSynAckTest _ | .inFinTest _ | .ipByte0 | .tcpByte12 =>
    true
  | _ => false

/-- All that an instruction that completes can do, in any state. -/
inductive Performs : Instr → State → State → Prop
  | unit {i : Instr} {s : State} (hi : isUnitOperation i = true) (a : Answer) :
      Performs i s (s.withAnswer a)
  | wire {i : Instr} {s : State} (hi : isWirePattern i = true) (o : Outside) (calls : List Call)
      (ho : Follows s.outside o calls) : Performs i s (s.withOutside o)
  | opened {port : Word16} {iss : Word32} {rport : Word16} {s : State}
      (hpre : s.tag = .closed ∧ s.phase = .idle) :
      Performs (.csmOpen port iss rport) s ((s.withOpened port iss rport).withTag .synSent)
  | synAck {seg : TcpSegment} {s : State} (htag : s.tag = .synSent) :
      Performs (.csmSynAck seg) s ((s.withPeerSeq seg.seq).withTag .established)
  | segment {seg : TcpSegment} {s : State} (htag : s.tag = .established) :
      Performs (.csmSegment seg) s
        (((s.withSegment seg.seq seg.payload).withTag
          (if finSet seg.flags then .finWait else s.tag)).withAnswer (.flag (finSet seg.flags)))
  | closed {s : State} (htag : s.tag = .finWait) : Performs .csmClose s (s.withTag .closed)
  | aborted {s : State} : Performs .csmAbort s (s.withTag .closed)
  | setupFailed {la ra : Addr} {rport : Word16} {rq : Bytes} {s : State} (hph : s.phase = .idle) :
      Performs (.start la ra rport rq false) s (raiseFail .setup s)
  | started {la ra : Addr} {rport : Word16} {rq : Bytes} {s : State} (port : Word16) (iss : Word32)
      (o : Outside) (hph : s.phase = .idle) (htag : s.tag = .closed) (hreq : rq.length ≤ Config.reqMax)
      (ho : Follows s.outside o [Call.draw16 port, .draw32 iss]) :
      Performs (.start la ra rport rq true) s
        (((((s.withTransfer la ra rq).withOutside o).withOpened port iss rport).withTag
          .synSent).withPhase .sendSyn)
  | phaseStep {i : Instr} {s t : State} (hi : i = .step ∨ i = stepOfPhase s.phase)
      (ht : PhaseStepped s t) : Performs i s t
  | reset {s : State} : Performs .reset s (resetBlock s)

theorem performs_wireAnswer {i : Instr} (hi : isWirePattern i = true) (s : State) (a : Answer) :
    Performs i s (s.withAnswer a) :=
  .wire hi _ [] (follows_withAnswer s a)

theorem performs_answerPacket {i : Instr} (hi : isWirePattern i = true) (d : Desc) (s : State) :
    Performs i s (answerPacket d s) := by
  have ho := follows_answerPacket d s
  rw [answerPacket_eq] at ho ⊢
  exact .wire hi _ _ ho

theorem performs_csmSegment {seg : TcpSegment} {s : State} (htag : s.tag = .established) :
    Performs (.csmSegment seg) s ((csmSegment seg s).withAnswer (.flag (finSet seg.flags))) := by
  have h := Performs.segment (seg := seg) htag
  by_cases hfin : finSet seg.flags = true
  · rw [if_pos hfin] at h
    rwa [csmSegment, if_pos hfin]
  · rw [if_neg hfin] at h
    rwa [csmSegment, if_neg hfin]

theorem performs_startTransfer {la ra : Addr} {rport : Word16} {rq : Bytes} {s : State}
    (hph : s.phase = .idle) (htag : s.tag = .closed) (hreq : rq.length ≤ Config.reqMax) :
    Performs (.start la ra rport rq true) s (startTransfer la ra rport rq s) := by
  have ho := (follows_draw16 (s.withTransfer la ra rq)).trans
    (follows_draw32 (draw16 (s.withTransfer la ra rq)).2)
  have hframe := (draw32_frame _).trans
    (congrArg (State.withOutside · _) (draw16_frame (s.withTransfer la ra rq)))
  unfold startTransfer csmOpen
  dsimp only
  rw [hframe]
  exact .started _ _ _ hph htag hreq ho

theorem execStart_next {la ra : Addr} {rport : Word16} {rq : Bytes} {ready : Bool} {s t : State}
    (h : execStart la ra rport rq ready s = .next t) : Performs (.start la ra rport rq ready) s t := by
  unfold execStart at h
  split at h
  · cases h
  · rename_i hph
    split at h
    · cases h
    · rename_i hreq
      split at h
      · rename_i hready
        cases h
        exact hready ▸ .setupFailed (not_not.1 hph)
      · rename_i hready
        split at h
        · cases h
        · rename_i htag
          cases h
          rw [Bool.not_eq_false] at hready
          exact hready ▸
            performs_startTransfer (not_not.1 hph) (not_not.1 htag) (Nat.le_of_not_lt hreq)

/-- The phase's own step, performed by its own row (R154 to R160, R163). -/
theorem performs_ownStep {ph : Phase} {s t : State} (h : s.phase = ph ∧ PhaseStepped s t) :
    Performs (stepOfPhase ph) s t :=
  .phaseStep (.inr (h.1 ▸ rfl)) h.2

theorem exec_next {i : Instr} {s t : State} (h : exec i s = .next t) : Performs i s t := by
  by_cases hu : isUnitOperation i = true
  · obtain ⟨ht, -⟩ := (exec_stateIndependent_of_isUnitOperation hu).answered_of_next h s
    exact ht ▸ .unit hu _
  cases i with
  | csmOpen port iss rport => obtain ⟨hpre, ⟨⟩⟩ := next_of_guard h; exact .opened hpre
  | csmSynAck seg => obtain ⟨htag, ⟨⟩⟩ := next_of_guard h; exact .synAck htag
  | csmSegment seg => obtain ⟨htag, ⟨⟩⟩ := next_of_guard h; exact performs_csmSegment htag
  | csmClose => obtain ⟨htag, ⟨⟩⟩ := next_of_guard h; exact .closed htag
  | csmAbort => cases h; exact .aborted
  | start la ra rport rq ready => exact execStart_next h
  | step => exact .phaseStep (.inl rfl) (execStep_next h)
  | reset => cases h; exact .reset
  | stepIdle => exact performs_ownStep (runIdle_next h)
  | stepSendSyn => exact performs_ownStep (runSendSyn_next h)
  | stepWaitSynAck => exact performs_ownStep (runWaitSynAck_next h)
  | stepSendAck => exact performs_ownStep (runSendAck_next h)
  | stepSendReq => exact performs_ownStep (runSendReq_next h)
  | stepRecv => exact performs_ownStep (runRecv_next h)
  | stepSendFinAck => exact performs_ownStep (runSendFinAck_next h)
  | stepDone => exact performs_ownStep (runDone_next h)
  | pktSyn => cases h; exact performs_answerPacket rfl ..
  | pktAck => cases h; exact performs_answerPacket rfl ..
  | pktReq => obtain ⟨-, ⟨⟩⟩ := next_of_guard h; exact performs_answerPacket rfl ..
  | pktFinalAck => cases h; exact performs_answerPacket rfl ..
  | inSynAckTest f => cases h; exact performs_wireAnswer rfl ..
  | inFinTest f => cases h; exact performs_wireAnswer rfl ..
  | ipByte0 => cases h; exact performs_wireAnswer rfl ..
  | tcpByte12 => cases h; exact performs_wireAnswer rfl ..
  | _ => exact absurd rfl hu

/-- A step performs the command it takes, or `STEP` when none waits (R7, R162). -/
theorem step_next {s t : State} (h : step s = .next t) :
    ∃ i cs, Performs i (s.withCmds cs) t ∧
      ((s.outside.cmds = [] ∧ cs = [] ∧ i = .step) ∨
        ∃ c, s.outside.cmds = c :: cs ∧ decode c.place c.bytes = .ok i) := by
  cases hcmds : s.outside.cmds with
  | nil =>
    rw [step_of_noCommand hcmds] at h
    have hs : s.withCmds [] = s := hcmds ▸ rfl
    exact ⟨.step, [], hs.symm ▸ exec_next h, .inl ⟨rfl, rfl, rfl⟩⟩
  | cons c cs =>
    cases hd : decode c.place c.bytes with
    | ok i =>
      rw [step_of_decoded hcmds hd] at h
      exact ⟨i, cs, exec_next h, .inr ⟨c, rfl, hd⟩⟩
    | error e =>
      rw [step_of_undecodable hcmds hd] at h
      cases h

/-! ### The parameters (R29, R212) -/

theorem Heard.params {s u : State} (h : Heard s u) : u.params = s.params := by
  cases h; rfl

theorem PhaseStepped.params {s t : State} (h : PhaseStepped s t) : t.params = s.params := by
  cases h with
  | waits u hu => exact hu.params
  | timedOut kind u hu => exact hu.params
  | synAck seg u hu => exact hu.params
  | segment seg u hu => exact hu.params
  | lastSegment seg u hu => exact hu.params
  | _ => rfl

theorem Performs.params {i : Instr} {s t : State} (h : Performs i s t) : t.params = s.params := by
  cases h with
  | phaseStep hi ht => exact ht.params
  | _ => rfl

/-- Settles O59: no instruction writes a parameter. -/
theorem noStepChangesAParameter : Obligations.NoStepChangesAParameter := by
  intro s t h
  obtain ⟨i, cs, hp, -⟩ := step_next h
  exact hp.params

/-! ### The receive buffer (R26, R199, R202) -/

theorem Heard.rxbuf_rxLen {s u : State} (h : Heard s u) {p : Bytes} {ps : List Bytes}
    (hp : s.outside.packets = p :: ps) :
    u.rxbuf = Memory.writeBytes s.rxbuf 0 p ∧ u.rxLen = p.length := by
  obtain ⟨q, o, n, -, hnext, -, -⟩ := h
  obtain rfl := hnext p ps hp
  exact ⟨rfl, rfl⟩

theorem PhaseStepped.rxbuf_rxLen {s t : State} (h : PhaseStepped s t)
    (hph : s.phase = .waitSynAck ∨ s.phase = .recv) {p : Bytes} {ps : List Bytes}
    (hp : s.outside.packets = p :: ps) :
    t.rxbuf = Memory.writeBytes s.rxbuf 0 p ∧ t.rxLen = p.length := by
  cases h with
  | rest h => obtain h | h := h <;> simp [h] at hph
  | sendFailed kind id st o h => obtain hph | hph := hph <;> simp [hph] at h
  | synSent id o h => simp [h] at hph
  | ackSent id o h => simp [h] at hph
  | reqSent id o h => simp [h] at hph
  | finAckSent id o h => simp [h] at hph
  | waits u hu => exact hu.rxbuf_rxLen hp
  | timedOut kind u hu => exact hu.rxbuf_rxLen hp
  | synAck seg u hu => exact hu.rxbuf_rxLen hp
  | segment seg u hu => exact hu.rxbuf_rxLen hp
  | lastSegment seg u hu => exact hu.rxbuf_rxLen hp

theorem PhaseStepped.rxbuf_rxLen_of_notWaiting {s t : State} (h : PhaseStepped s t)
    (hw : s.phase ≠ .waitSynAck) (hr : s.phase ≠ .recv) : t.rxbuf = s.rxbuf ∧ t.rxLen = s.rxLen := by
  cases h with
  | waits u hu hph => exact absurd hph (by simp [hw, hr])
  | timedOut kind u hu hph => exact absurd hph (by simp [hw, hr])
  | synAck seg u hu hph => exact absurd hph hw
  | segment seg u hu hph => exact absurd hph hr
  | lastSegment seg u hu hph => exact absurd hph hr
  | _ => exact ⟨rfl, rfl⟩

theorem Performs.rxbuf_rxLen_of_notWaiting {i : Instr} {s t : State} (h : Performs i s t)
    (hw : i ≠ .stepWaitSynAck) (hr : i ≠ .stepRecv) (hstep : i ≠ .step) (hreset : i ≠ .reset) :
    t.rxbuf = s.rxbuf ∧ t.rxLen = s.rxLen := by
  cases h with
  | phaseStep hi ht =>
    obtain rfl := hi.resolve_left hstep
    exact ht.rxbuf_rxLen_of_notWaiting (fun hph => hw (hph ▸ rfl)) (fun hph => hr (hph ▸ rfl))
  | reset => exact absurd rfl hreset
  | _ => exact ⟨rfl, rfl⟩

/-- Settles O43: a waiting step writes its delivery into the buffer from offset 0 upward, and no other
instruction that is asked about writes the buffer. -/
theorem receiveWritesTheDeliveredBytesOnly : Obligations.ReceiveWritesTheDeliveredBytesOnly := by
  refine ⟨fun i s t p ps hi h hwf hp => ?_,
    fun i s t hw hr hstep hreset h => (exec_next h).rxbuf_rxLen_of_notWaiting hw hr hstep hreset⟩
  have hrx : t.rxbuf = Memory.writeBytes s.rxbuf 0 p ∧ t.rxLen = p.length := by
    obtain rfl | rfl := hi
    · obtain ⟨hph, ht⟩ := runWaitSynAck_next h
      exact ht.rxbuf_rxLen (.inl hph) hp
    · obtain ⟨hph, ht⟩ := runRecv_next h
      exact ht.rxbuf_rxLen (.inr hph) hp
  obtain ⟨hbuf, hlen⟩ := hrx
  rw [hbuf, hlen]
  refine ⟨rfl, Memory.readBytes_writeBytes hwf p, fun a => ?_⟩
  simpa using Memory.readByte_writeBytes hwf 0 p a

end Sys2Proof.Machine
end

section
/-! PROOFS. The state (10_state.md), second part: what the caller may issue, and the invariant of R34. -/

namespace Sys2Proof

open Sys2Proof.Claims Sys2Proof.Machine

/-! ### What the caller's commands decode to (R79, R80) -/

/-- The operations that the caller may issue: the six unit operations, `START`, `STEP` and `RESET` (R80). -/
def offeredToCaller : Instr → Bool
  | .start _ _ _ _ _ | .step | .reset => true
  | i => isUnitOperation i

theorem exists_of_bind_eq_ok {α β : Type} {x : Except DecodeError α}
    {f : α → Except DecodeError β} {b : β} (h : (x >>= f) = .ok b) : ∃ a, x = .ok a ∧ f a = .ok b := by
  cases x with
  | ok a => exact ⟨a, rfl, h⟩
  | error e => cases h

theorem atEnd_eq_ok {i j : Instr} {bs : Bytes} (h : atEnd i bs = .ok j) : j = i ∧ bs = [] := by
  cases bs with
  | nil => cases h; exact ⟨rfl, rfl⟩
  | cons b bs => cases h

theorem isUnitOperation_of_decodeIphBuild {bs : Bytes} {i : Instr} (h : decodeIphBuild bs = .ok i) :
    isUnitOperation i = true := by
  obtain ⟨_, -, h⟩ := exists_of_bind_eq_ok h
  obtain ⟨_, -, h⟩ := exists_of_bind_eq_ok h
  obtain ⟨_, -, h⟩ := exists_of_bind_eq_ok h
  obtain ⟨_, -, h⟩ := exists_of_bind_eq_ok h
  obtain ⟨rfl, -⟩ := atEnd_eq_ok h
  rfl

theorem isUnitOperation_of_decodeIphFin {bs : Bytes} {i : Instr} (h : decodeIphFin bs = .ok i) :
    isUnitOperation i = true := by
  unfold decodeIphFin at h
  split at h
  · cases h; rfl
  · cases h

theorem isUnitOperation_of_decodeTcpBuild {bs : Bytes} {i : Instr} (h : decodeTcpBuild bs = .ok i) :
    isUnitOperation i = true := by
  obtain ⟨_, -, h⟩ := exists_of_bind_eq_ok h
  obtain ⟨_, -, h⟩ := exists_of_bind_eq_ok h
  obtain ⟨_, -, h⟩ := exists_of_bind_eq_ok h
  obtain ⟨_, -, h⟩ := exists_of_bind_eq_ok h
  obtain ⟨_, -, h⟩ := exists_of_bind_eq_ok h
  cases h
  rfl

theorem isUnitOperation_of_decodeTcpFin {bs : Bytes} {i : Instr} (h : decodeTcpFin bs = .ok i) :
    isUnitOperation i = true := by
  obtain ⟨_, -, h⟩ := exists_of_bind_eq_ok h
  obtain ⟨_, -, h⟩ := exists_of_bind_eq_ok h
  cases h
  rfl

theorem exists_start_of_decodeStart {bs : Bytes} {i : Instr} (h : decodeStart bs = .ok i) :
    ∃ la ra rport rq ready, i = .start la ra rport rq ready := by
  obtain ⟨_, -, h⟩ := exists_of_bind_eq_ok h
  obtain ⟨_, -, h⟩ := exists_of_bind_eq_ok h
  obtain ⟨_, -, h⟩ := exists_of_bind_eq_ok h
  obtain ⟨_, -, h⟩ := exists_of_bind_eq_ok h
  cases h
  exact ⟨_, _, _, _, _, rfl⟩

/-- The operations a command of the caller can stand for; `RESET` has one command only. -/
theorem decodeCaller_cases {code : Byte} {r : Bytes} {i : Instr} (h : decodeCaller code r = .ok i) :
    isUnitOperation i = true ∨ (∃ la ra rport rq ready, i = .start la ra rport rq ready) ∨ i = .step ∨
      (i = .reset ∧ code :: r = [0x5F]) := by
  unfold decodeCaller at h
  obtain ⟨-, h⟩ | ⟨-, h⟩ := ite_eq_iff.1 h
  · cases h; exact .inl rfl
  obtain ⟨-, h⟩ | ⟨-, h⟩ := ite_eq_iff.1 h
  · exact .inl (isUnitOperation_of_decodeIphBuild h)
  obtain ⟨-, h⟩ | ⟨-, h⟩ := ite_eq_iff.1 h
  · exact .inl (isUnitOperation_of_decodeIphFin h)
  obtain ⟨-, h⟩ | ⟨-, h⟩ := ite_eq_iff.1 h
  · exact .inl (isUnitOperation_of_decodeTcpBuild h)
  obtain ⟨-, h⟩ | ⟨-, h⟩ := ite_eq_iff.1 h
  · exact .inl (isUnitOperation_of_decodeTcpFin h)
  obtain ⟨-, h⟩ | ⟨-, h⟩ := ite_eq_iff.1 h
  · cases h; exact .inl rfl
  obtain ⟨-, h⟩ | ⟨-, h⟩ := ite_eq_iff.1 h
  · exact .inr (.inl (exists_start_of_decodeStart h))
  obtain ⟨-, h⟩ | ⟨-, h⟩ := ite_eq_iff.1 h
  · exact .inr (.inr (.inl (atEnd_eq_ok h).1))
  obtain ⟨hcode, h⟩ | ⟨-, h⟩ := ite_eq_iff.1 h
  · obtain ⟨rfl, rfl⟩ := atEnd_eq_ok h
    exact .inr (.inr (.inr ⟨rfl, hcode ▸ rfl⟩))
  obtain ⟨-, ⟨⟩⟩ | ⟨-, ⟨⟩⟩ := ite_eq_iff.1 h

theorem offeredToCaller_of_isUnitOperation {i : Instr} (h : isUnitOperation i = true) :
    offeredToCaller i = true := by
  unfold offeredToCaller
  split
  · rfl
  · rfl
  · rfl
  · exact h

theorem not_offeredToCaller_of_isWirePattern {i : Instr} (h : isWirePattern i = true) :
    offeredToCaller i ≠ true := by
  unfold isWirePattern at h
  split at h <;> cases h <;> exact Bool.false_ne_true

/-- What the caller's command decodes to is offered to the caller, and the caller's `RESET` is the byte
0x5F alone (R79, R80). -/
theorem offeredToCaller_of_decode {bs : Bytes} {i : Instr} (h : decode .caller bs = .ok i) :
    offeredToCaller i = true ∧ (i = .reset → bs = [0x5F]) := by
  cases bs with
  | nil => cases h
  | cons code r =>
    obtain hu | ⟨la, ra, rport, rq, ready, rfl⟩ | rfl | ⟨rfl, hbs⟩ := decodeCaller_cases h
    · exact ⟨offeredToCaller_of_isUnitOperation hu, fun hi => by cases hi; cases hu⟩
    · exact ⟨rfl, nofun⟩
    · exact ⟨rfl, nofun⟩
    · exact ⟨rfl, fun _ => hbs⟩

end Sys2Proof

namespace Sys2Proof.Safety

open Sys2Proof.Machine

/-! ### What each update does to the invariant -/

section Invariant

variable {s : State} (hs : BlockInv s)
include hs

theorem BlockInv.result_eq_none (hph : s.phase ≠ .done) : s.result = .none :=
  not_not.1 fun hr => hph (hs.doneIffResult.2 hr)

theorem BlockInv.phase_eq_done (hr : s.result ≠ .none) : s.phase = .done := hs.doneIffResult.2 hr

theorem BlockInv.withOutside {o : Outside} {calls : List Call} (ho : Follows s.outside o calls) :
    BlockInv (s.withOutside o) :=
  { hs with
    synTimeInPast := fun hph => (hs.synTimeInPast hph).trans ho.clock
    lastActivityInPast := fun hph => (hs.lastActivityInPast hph).trans ho.clock
    channelDuty := fun p hp => hs.channelDuty p (ho.packets p hp)
    callerDuty := fun c hc => hs.callerDuty c (ho.cmds ▸ hc) }

theorem BlockInv.withCmds {cs : List Command} (hcs : ∀ c ∈ cs, c ∈ s.outside.cmds) :
    BlockInv (s.withCmds cs) :=
  { hs with callerDuty := fun c hc => hs.callerDuty c (hcs c hc) }

theorem BlockInv.withReceived {p : Bytes} (hp : p.length ≤ Config.rxBufBytes) :
    BlockInv (s.withReceived p) :=
  { hs with
    rxbufCanonical := Memory.wf_writeBytes hs.rxbufCanonical 0 p
    rxbufInside := Memory.below_writeBytes hs.rxbufInside 0 p ((Nat.zero_add _).trans_le hp)
    rxLenFits := hp }

theorem BlockInv.withLastActivity {n : Nat} (hn : n ≤ s.outside.clock) :
    BlockInv (s.withLastActivity n) :=
  { hs with lastActivityInPast := fun _ => hn }

/-- The failure entry keeps the invariant from every phase (R186). -/
theorem BlockInv.raiseFail (kind : FailKind) : BlockInv (Machine.raiseFail kind s) :=
  have hresult : kind.result ≠ .none ∧ kind.result ≠ .success := by cases kind <;> decide
  { hs with
    idleIsClean := nofun
    doneIffResult := by simpa using hresult.1
    phaseFixesTag := rfl
    localSeqAfterHandshake := by simp [hresult.2]
    localSeqBeforeHandshake := by simp
    remoteSeqIsR := by simp
    synTimeInPast := nofun
    lastActivityInPast := by simp }

theorem BlockInv.synSent (hph : s.phase = .sendSyn) :
    BlockInv (((s.withLastActivity s.outside.clock).withSynTime s.outside.clock).withPhase
      .waitSynAck) :=
  have hresult := hs.result_eq_none (by simp [hph])
  { hs with
    idleIsClean := nofun
    doneIffResult := by simp [hresult]
    phaseFixesTag := hs.phaseFixesTag.trans (hph ▸ rfl)
    localSeqAfterHandshake := by simp [hresult]
    localSeqBeforeHandshake := fun _ => hs.localSeqBeforeHandshake (.inl hph)
    remoteSeqIsR := by simp
    synTimeInPast := fun _ => le_rfl
    lastActivityInPast := fun _ => le_rfl }

theorem BlockInv.synAckAccepted (hph : s.phase = .waitSynAck) (seq : Word32) :
    BlockInv (((s.withPeerSeq seq).withTag .established).withPhase .sendAck) :=
  have hresult := hs.result_eq_none (by simp [hph])
  { hs with
    idleIsClean := nofun
    doneIffResult := by simp [hresult]
    phaseFixesTag := rfl
    localSeqAfterHandshake := fun _ => rfl
    localSeqBeforeHandshake := by simp
    remoteSeqIsR := fun _ => rfl
    synTimeInPast := nofun
    lastActivityInPast := fun _ => hs.lastActivityInPast (.inl hph) }

theorem BlockInv.ackSent (hph : s.phase = .sendAck) : BlockInv (s.withPhase .sendReq) :=
  have hresult := hs.result_eq_none (by simp [hph])
  { hs with
    idleIsClean := nofun
    doneIffResult := by simp [hresult]
    phaseFixesTag := hs.phaseFixesTag.trans (hph ▸ rfl)
    localSeqAfterHandshake := fun _ => hs.localSeqAfterHandshake (by simp [hph])
    localSeqBeforeHandshake := by simp
    remoteSeqIsR := fun _ => hs.remoteSeqIsR (.inl hph)
    synTimeInPast := nofun
    lastActivityInPast := fun _ => hs.lastActivityInPast (by simp [hph]) }

theorem BlockInv.reqSent (hph : s.phase = .sendReq) : BlockInv (s.withPhase .recv) :=
  have hresult := hs.result_eq_none (by simp [hph])
  { hs with
    idleIsClean := nofun
    doneIffResult := by simp [hresult]
    phaseFixesTag := hs.phaseFixesTag.trans (hph ▸ rfl)
    localSeqAfterHandshake := fun _ => hs.localSeqAfterHandshake (by simp [hph])
    localSeqBeforeHandshake := by simp
    remoteSeqIsR := by simp
    synTimeInPast := nofun
    lastActivityInPast := fun _ => hs.lastActivityInPast (by simp [hph]) }

theorem BlockInv.segmentAccepted (hph : s.phase = .recv) (seq : Word32) (d : Bytes) :
    BlockInv (s.withSegment seq d) :=
  { hs with
    idleIsClean := by simp [hph]
    remoteSeqIsR := by simp [hph] }

theorem BlockInv.finAccepted (hph : s.phase = .recv) :
    BlockInv ((s.withTag .finWait).withPhase .sendFinAck) :=
  have hresult := hs.result_eq_none (by simp [hph])
  { hs with
    idleIsClean := nofun
    doneIffResult := by simp [hresult]
    phaseFixesTag := rfl
    localSeqAfterHandshake := fun _ => hs.localSeqAfterHandshake (by simp [hph])
    localSeqBeforeHandshake := by simp
    remoteSeqIsR := by simp
    synTimeInPast := nofun
    lastActivityInPast := by simp }

theorem BlockInv.finAckSent (hph : s.phase = .sendFinAck) :
    BlockInv (((s.withTag .closed).withResult .success).withPhase .done) :=
  { hs with
    idleIsClean := nofun
    doneIffResult := by simp
    phaseFixesTag := rfl
    localSeqAfterHandshake := fun _ => hs.localSeqAfterHandshake (by simp [hph])
    localSeqBeforeHandshake := by simp
    remoteSeqIsR := by simp
    synTimeInPast := nofun
    lastActivityInPast := by simp }

theorem BlockInv.withTransfer {rq : Bytes} (hreq : rq.length ≤ Config.reqMax) (la ra : Addr) :
    BlockInv (s.withTransfer la ra rq) :=
  { hs with requestFits := hreq }

theorem BlockInv.opened (hph : s.phase = .idle) (port : Word16) (iss : Word32) (rport : Word16) :
    BlockInv (((s.withOpened port iss rport).withTag .synSent).withPhase .sendSyn) :=
  have hresult := hs.result_eq_none (by simp [hph])
  { hs with
    idleIsClean := nofun
    doneIffResult := by simp [hresult]
    phaseFixesTag := rfl
    localSeqAfterHandshake := by simp [hresult]
    localSeqBeforeHandshake := fun _ => rfl
    remoteSeqIsR := by simp
    synTimeInPast := nofun
    lastActivityInPast := by simp }

/-- `RESET` meets the invariant whatever the free values are (R33, R210). -/
theorem BlockInv.resetBlock : BlockInv (Machine.resetBlock s) where
  idleIsClean := fun _ => ⟨rfl, rfl, rfl⟩
  doneIffResult := by simp [Machine.resetBlock]
  phaseFixesTag := rfl
  localSeqAfterHandshake := by simp [Machine.resetBlock]
  localSeqBeforeHandshake := by simp [Machine.resetBlock]
  remoteSeqIsR := by simp [Machine.resetBlock]
  synTimeInPast := nofun
  lastActivityInPast := by simp [Machine.resetBlock]
  requestFits := List.length_take_le _ _
  rxbufCanonical := Memory.wf_writeBytes Memory.wf_nil _ _
  rxbufInside := Memory.below_writeBytes (by simp) _ _ (by simp)
  rxLenFits := Nat.le_of_lt_succ (Nat.mod_lt _ (Nat.succ_pos _))
  channelDuty := hs.channelDuty
  callerDuty := hs.callerDuty

end Invariant

end Sys2Proof.Safety

namespace Sys2Proof.Machine

open Sys2Proof.Claims Sys2Proof.Safety

/-! ### Every step keeps the invariant -/

theorem Heard.phase {s u : State} (h : Heard s u) : u.phase = s.phase := by
  cases h; rfl

theorem Heard.blockInv {s u : State} (h : Heard s u) (hs : BlockInv s)
    (hph : s.phase = .waitSynAck ∨ s.phase = .recv) : BlockInv u := by
  obtain ⟨p, o, n, hlen, -, ho, hn⟩ := h
  have hla : s.lastActivity ≤ o.clock :=
    (hs.lastActivityInPast (by tauto)).trans ho.clock
  refine ((hs.withReceived hlen).withOutside ho).withLastActivity ?_
  obtain rfl | rfl := hn
  · exact hla
  · exact le_rfl

theorem PhaseStepped.blockInv {s t : State} (h : PhaseStepped s t) (hs : BlockInv s) : BlockInv t := by
  cases h with
  | rest hph => exact hs
  | sendFailed kind id st o hph hst ho => exact (hs.withOutside ho).raiseFail _
  | synSent id o hph ho => exact (hs.withOutside ho).synSent hph
  | ackSent id o hph ho => exact (hs.withOutside ho).ackSent hph
  | reqSent id o hph ho => exact (hs.withOutside ho).reqSent hph
  | finAckSent id o hph ho => exact (hs.withOutside ho).finAckSent hph
  | waits u hu hph => exact hu.blockInv hs hph
  | timedOut kind u hu hph => exact (hu.blockInv hs (hph.imp And.left And.left)).raiseFail kind
  | synAck seg u hu hph => exact (hu.blockInv hs (.inl hph)).synAckAccepted (hu.phase.trans hph) _
  | segment seg u hu hph hfin =>
    exact (hu.blockInv hs (.inr hph)).segmentAccepted (hu.phase.trans hph) _ _
  | lastSegment seg u hu hph hfin =>
    have huph := hu.phase.trans hph
    exact ((hu.blockInv hs (.inr hph)).segmentAccepted huph _ _).finAccepted huph

/-- Whatever the caller may issue keeps the invariant (R34, R192). -/
theorem Performs.blockInv {i : Instr} {s t : State} (h : Performs i s t)
    (hi : offeredToCaller i = true) (hs : BlockInv s) : BlockInv t := by
  cases h with
  | unit hu a => exact hs.withOutside (follows_withAnswer s a)
  | wire hw o calls ho => exact hs.withOutside ho
  | setupFailed hph => exact hs.raiseFail .setup
  | started port iss o hph htag hreq ho =>
    exact ((hs.withTransfer hreq _ _).withOutside ho).opened hph port iss _
  | phaseStep hstep ht => exact ht.blockInv hs
  | reset => exact hs.resetBlock
  | _ => cases hi

/-- A step from a state that meets the invariant performs an operation offered to the caller, in a state
that meets it too (R192). -/
theorem step_next_of_blockInv {s t : State} (hs : BlockInv s) (h : step s = .next t) :
    ∃ i cs, BlockInv (s.withCmds cs) ∧ Performs i (s.withCmds cs) t ∧ offeredToCaller i = true ∧
      (i = .reset → resetIssued s) := by
  obtain ⟨i, cs, hp, ⟨-, rfl, rfl⟩ | ⟨⟨pl, bs⟩, hcmds, hd⟩⟩ := step_next h
  · exact ⟨.step, [], hs.withCmds (by simp), hp, rfl, nofun⟩
  · obtain rfl : pl = .caller := hs.callerDuty ⟨pl, bs⟩ (by simp [hcmds])
    obtain ⟨hi, hreset⟩ := offeredToCaller_of_decode hd
    refine ⟨i, cs, hs.withCmds fun c hc => ?_, hp, hi, fun hr => ⟨cs, ?_⟩⟩
    · exact hcmds ▸ List.mem_cons_of_mem _ hc
    · rw [hcmds, ← hreset hr]

/-- Settles O49: every operation offered to the caller keeps the invariant, update by update. -/
theorem everyStepKeepsTheInvariant : Obligations.EveryStepKeepsTheInvariant := by
  intro s t hs h
  obtain ⟨i, cs, hs', hp, hi, -⟩ := step_next_of_blockInv hs h
  exact hp.blockInv hi hs'

/-! ### The response only grows (R25, R34 e) -/

theorem Heard.resp {s u : State} (h : Heard s u) : u.resp = s.resp := by
  cases h; rfl

theorem PhaseStepped.resp_grows {s t : State} (h : PhaseStepped s t) : s.resp <+: t.resp := by
  cases h with
  | waits u hu => exact ⟨[], hu.resp ▸ List.append_nil _⟩
  | timedOut kind u hu => exact ⟨[], hu.resp ▸ List.append_nil _⟩
  | synAck seg u hu => exact ⟨[], hu.resp ▸ List.append_nil _⟩
  | segment seg u hu => exact ⟨seg.payload, hu.resp ▸ rfl⟩
  | lastSegment seg u hu => exact ⟨seg.payload, hu.resp ▸ rfl⟩
  | _ => exact ⟨[], List.append_nil _⟩

theorem Performs.resp_grows {i : Instr} {s t : State} (h : Performs i s t) (hi : i ≠ .reset) :
    s.resp <+: t.resp := by
  cases h with
  | segment htag => exact ⟨_, rfl⟩
  | phaseStep hstep ht => exact ht.resp_grows
  | reset => exact absurd rfl hi
  | _ => exact ⟨[], List.append_nil _⟩

theorem Performs.eq_resetBlock {s t : State} (h : Performs .reset s t) : t = resetBlock s := by
  cases h with
  | reset => rfl
  | phaseStep hstep ht => cases hph : s.phase <;> simp [hph, stepOfPhase] at hstep
  | unit hu => cases hu
  | wire hw => cases hw

/-- Settles O56: every operation but `RESET` leaves the response or appends to it. -/
theorem responseOnlyGrows : Obligations.ResponseOnlyGrows := by
  intro s t hs h
  obtain ⟨i, cs, -, hp, -, hreset⟩ := step_next_of_blockInv hs h
  by_cases hi : i = .reset
  · subst hi
    exact .inr ⟨hreset rfl, by rw [hp.eq_resetBlock]; rfl⟩
  · exact .inl (hp.resp_grows hi)

/-! ### A result is written once (R20, R160, R188) -/

/-- In `PH_DONE` the phase step leaves the state alone (R160). -/
theorem PhaseStepped.eq_of_done {s t : State} (h : PhaseStepped s t) (hph : s.phase = .done) : t = s := by
  cases h with
  | rest => rfl
  | sendFailed kind id st o h => simp [hph] at h
  | synSent id o h => simp [hph] at h
  | ackSent id o h => simp [hph] at h
  | reqSent id o h => simp [hph] at h
  | finAckSent id o h => simp [hph] at h
  | waits u hu h => simp [hph] at h
  | timedOut kind u hu h => simp [hph] at h
  | synAck seg u hu h => simp [hph] at h
  | segment seg u hu h => simp [hph] at h
  | lastSegment seg u hu h => simp [hph] at h

/-- In `PH_DONE` an operation of the caller but `RESET` changes nothing but its answer. -/
theorem Performs.eq_withOutside_of_done {i : Instr} {s t : State} (h : Performs i s t)
    (hoffered : offeredToCaller i = true) (hi : i ≠ .reset) (hph : s.phase = .done) :
    t = s.withOutside t.outside ∧ t.outside.trace = s.outside.trace := by
  cases h with
  | unit hu a => exact ⟨rfl, rfl⟩
  | setupFailed hidle => simp [hph] at hidle
  | started port iss o hidle => simp [hph] at hidle
  | phaseStep hstep ht =>
    obtain rfl := ht.eq_of_done hph
    exact ⟨rfl, rfl⟩
  | reset => exact absurd rfl hi
  | wire hw => exact absurd hoffered (not_offeredToCaller_of_isWirePattern hw)
  | _ => cases hoffered

/-- Settles O57: with a result the phase is `PH_DONE`, where only `RESET` writes a register. -/
theorem resultIsWrittenOnce : Obligations.ResultIsWrittenOnce := by
  intro s t hs hr h
  obtain ⟨i, cs, hs', hp, hoffered, hreset⟩ := step_next_of_blockInv hs h
  by_cases hi : i = .reset
  · subst hi
    exact .inr ⟨hreset rfl, by rw [hp.eq_resetBlock]; rfl⟩
  · exact .inl (hp.eq_withOutside_of_done hoffered hi (hs.phase_eq_done hr))

end Sys2Proof.Machine
end

section
/-! PROOFS. The memory and the collaborators (20_memory.md): the calls of one step, by its phase (R165). -/

namespace Sys2Proof.Machine

open Sys2Proof.Claims Sys2Proof.Safety

/-- From `s` to `t` the trace grows by calls that the phase of `s` may make (R165). -/
def CallsInPattern (s t : State) : Prop :=
  ∃ calls, t.outside.trace = s.outside.trace ++ calls ∧ CallsOfPhase s.phase calls

theorem callsInPattern_of_trace_eq {s t : State} (h : t.outside.trace = s.outside.trace) :
    CallsInPattern s t :=
  ⟨[], by simp [h], .none _⟩

theorem callsOfPhase_poll {ph : Phase} (h : ph = .waitSynAck ∨ ph = .recv) (p : Bytes) (t : Nat) :
    CallsOfPhase ph [.receive p, .now t] := by
  obtain rfl | rfl := h
  · exact .waitPoll p t
  · exact .recvPoll p t

/-- A waiting step receives and reads the clock, and calls nothing after that (R155, R158). -/
theorem Heard.callsInPattern {s u : State} (h : Heard s u)
    (hph : s.phase = .waitSynAck ∨ s.phase = .recv) : CallsInPattern s u := by
  obtain ⟨p, o, n, -, -, ho, -⟩ := h
  exact ⟨_, ho.trace, callsOfPhase_poll hph p _⟩

/-- A packet that is not sent is the last call in each of the four sending phases, `PH_SEND_SYN`
included: the clock is read after an ok SYN only (R154, R198). -/
theorem callsOfPhase_sendFailed {ph : Phase}
    (hph : ph ∈ [Phase.sendSyn, .sendAck, .sendReq, .sendFinAck]) (id : Word16) (a : Addr) (K : Bytes)
    {st : Nat} (hst : st ≠ 0) : CallsOfPhase ph [.draw16 id, .send a K st] := by
  simp only [List.mem_cons, List.not_mem_nil, or_false] at hph
  obtain rfl | rfl | rfl | rfl := hph
  · exact .synError id a K st hst
  · exact .ack id a K st
  · exact .req id a K st
  · exact .finAck id a K st

theorem PhaseStepped.callsInPattern {s t : State} (h : PhaseStepped s t) : CallsInPattern s t := by
  cases h with
  | rest hph => exact callsInPattern_of_trace_eq rfl
  | sendFailed kind id st o hph hst ho => exact ⟨_, ho.trace, callsOfPhase_sendFailed hph id _ _ hst⟩
  | synSent id o hph ho => exact ⟨_, ho.trace, hph ▸ .syn id _ _ _⟩
  | ackSent id o hph ho => exact ⟨_, ho.trace, hph ▸ .ack id _ _ 0⟩
  | reqSent id o hph ho => exact ⟨_, ho.trace, hph ▸ .req id _ _ 0⟩
  | finAckSent id o hph ho => exact ⟨_, ho.trace, hph ▸ .finAck id _ _ 0⟩
  | waits u hu hph => exact hu.callsInPattern hph
  | timedOut kind u hu hph => exact hu.callsInPattern (hph.imp And.left And.left)
  | synAck seg u hu hph => exact hu.callsInPattern (.inl hph)
  | segment seg u hu hph => exact hu.callsInPattern (.inr hph)
  | lastSegment seg u hu hph => exact hu.callsInPattern (.inr hph)

/-- What the caller may issue calls in the pattern of the phase; a packet shorthand, which draws in any
phase, is not among it (R80, R192). -/
theorem Performs.callsInPattern {i : Instr} {s t : State} (h : Performs i s t)
    (hi : offeredToCaller i = true) : CallsInPattern s t := by
  cases h with
  | started port iss o hph htag hreq ho => exact ⟨_, ho.trace, hph ▸ .start port iss⟩
  | phaseStep hstep ht => exact ht.callsInPattern
  | wire hw => exact absurd hi (not_offeredToCaller_of_isWirePattern hw)
  | _ => exact callsInPattern_of_trace_eq rfl

/-- Settles O54: each operation offered to the caller calls in the pattern, and taking the command leaves
the trace and the phase alone. -/
theorem callsFollowThePattern : Obligations.CallsFollowThePattern := by
  intro s t hs h
  obtain ⟨i, cs, -, hp, hi, -⟩ := step_next_of_blockInv hs h
  exact hp.callsInPattern hi

end Sys2Proof.Machine
end

section
/-! PROOFS. The encoding (30_encoding.md): the decoder and the encoder are inverse to each other on what each
accepts (R79, R82, R72), and the codes that are refused (R80). -/

namespace Sys2Proof

open Sys2Proof.Machine

/-! ### Decoding what the encoder writes -/

@[simp] theorem ok_bind {α β : Type} (a : α) (f : α → Except DecodeError β) :
    (Except.ok a >>= f) = f a := rfl

/-- A payload length within R102's bound survives its two bytes. -/
theorem toNat_ofNat_of_wellFormed {src dst : Addr} {n : Nat} {ident : Word16}
    (h : (Instr.iphBuild src dst n ident).wellFormed = true) : (BitVec.ofNat 16 n).toNat = n := by
  have hn : n ≤ 65515 := (wellFormed_iphBuild src dst n ident).1 h
  rw [BitVec.toNat_ofNat, Nat.mod_eq_of_lt (by omega)]

/-- Settles O1: each operand reader takes back what was written for its operand; a row whose operands are not
read apart decodes by computation. -/
theorem decodeOfEncodeIsIdentity : Obligations.DecodeOfEncodeIsIdentity := by
  intro i hi
  cases i with
  | iphBuild src dst n ident =>
    simp [encode, decode, decodeCaller, decodeIphBuild, toNat_ofNat_of_wellFormed hi]
  | iphFin H => exact if_pos ((wellFormed_iphFin H).1 hi)
  | tcpBuild sp dp q a f payload => simp [encode, decode, decodeCaller, decodeTcpBuild]
  | tcpFin G src dst => simp [encode, decode, decodeCaller, decodeTcpFin]
  | csmOpen port iss rport => simp [encode, decode, decodeEvent, decodeCsmOpen]
  | csmSynAck seg => simp [encode, decode, decodeEvent, Except.map]
  | csmSegment seg => simp [encode, decode, decodeEvent, Except.map]
  | start la ra rport rq ready => simp [encode, decode, decodeCaller, decodeStart]
  | inSynAckTest f => exact if_pos hi
  | inFinTest f => exact if_pos hi
  | _ => rfl

/-! ### What an operand reader has read -/

/-- The form of a test in the decoder: where it accepts, the test held. -/
theorem ok_of_guard {α : Type} {c : Prop} [Decidable c] {x y : α} {e : DecodeError}
    (h : (if c then .ok x else .error e : Except DecodeError α) = .ok y) : c ∧ x = y := by
  split at h
  · exact ⟨‹c›, Except.ok.inj h⟩
  · cases h

theorem take8_eq_ok {bs r : Bytes} {b : Byte} (h : take8 bs = .ok (b, r)) : bs = b :: r := by
  unfold take8 at h
  split at h <;> cases h
  rfl

theorem take16_eq_ok {bs r : Bytes} {v : Word16} (h : take16 bs = .ok (v, r)) :
    bs = be16 v ++ r := by
  unfold take16 at h
  split at h <;> cases h
  simp

theorem take32_eq_ok {bs r : Bytes} {v : Word32} (h : take32 bs = .ok (v, r)) :
    bs = be32 v ++ r := by
  unfold take32 at h
  split at h <;> cases h
  simp

theorem takeAddr_eq_ok {bs r : Bytes} {a : Addr} (h : takeAddr bs = .ok (a, r)) :
    bs = a.bytes ++ r := by
  unfold takeAddr at h
  split at h <;> cases h
  rfl

theorem takeFlags_eq_ok {bs r : Bytes} {f : BitVec 6} (h : takeFlags bs = .ok (f, r)) :
    bs = flagByteOf f :: r := by
  obtain ⟨⟨b, _⟩, hb, h⟩ := exists_of_bind_eq_ok h
  obtain ⟨hbits, ⟨⟩⟩ := ok_of_guard h
  rw [take8_eq_ok hb, hbits]

theorem takeNibble_eq_ok {bs r : Bytes} {n : BitVec 4} (h : takeNibble bs = .ok (n, r)) :
    bs = nibbles 0 n :: r := by
  obtain ⟨⟨b, _⟩, hb, h⟩ := exists_of_bind_eq_ok h
  obtain ⟨hbits, ⟨⟩⟩ := ok_of_guard h
  rw [take8_eq_ok hb, ← hbits, nibbles_parts]

theorem takeBool_eq_ok {bs r : Bytes} {c : Bool} (h : takeBool bs = .ok (c, r)) :
    bs = boolByte c :: r := by
  obtain ⟨⟨b, _⟩, hb, h⟩ := exists_of_bind_eq_ok h
  obtain ⟨rfl, ⟨⟩⟩ | ⟨-, h⟩ := ite_eq_iff.1 h
  · exact take8_eq_ok hb
  · obtain ⟨rfl, ⟨⟩⟩ := ok_of_guard h
    exact take8_eq_ok hb

/-! ### Encoding what the decoder has read, operation by operation -/

theorem encode_of_decodeIphBuild {bs : Bytes} {i : Instr} (h : decodeIphBuild bs = .ok i) :
    encode i = ⟨.caller, 0x20 :: bs⟩ := by
  obtain ⟨⟨src, _⟩, hsrc, h⟩ := exists_of_bind_eq_ok h
  obtain ⟨⟨dst, _⟩, hdst, h⟩ := exists_of_bind_eq_ok h
  obtain ⟨⟨len, _⟩, hlen, h⟩ := exists_of_bind_eq_ok h
  obtain ⟨⟨ident, _⟩, hident, h⟩ := exists_of_bind_eq_ok h
  obtain ⟨rfl, rfl⟩ := atEnd_eq_ok h
  simp [encode, takeAddr_eq_ok hsrc, takeAddr_eq_ok hdst, take16_eq_ok hlen, take16_eq_ok hident]

theorem encode_of_decodeIphFin {bs : Bytes} {i : Instr} (h : decodeIphFin bs = .ok i) :
    encode i = ⟨.caller, 0x21 :: bs⟩ := by
  obtain ⟨-, rfl⟩ := ok_of_guard h
  rfl

theorem encode_of_decodeTcpBuild {bs : Bytes} {i : Instr} (h : decodeTcpBuild bs = .ok i) :
    encode i = ⟨.caller, 0x30 :: bs⟩ := by
  obtain ⟨⟨sp, _⟩, hsp, h⟩ := exists_of_bind_eq_ok h
  obtain ⟨⟨dp, _⟩, hdp, h⟩ := exists_of_bind_eq_ok h
  obtain ⟨⟨seq, _⟩, hseq, h⟩ := exists_of_bind_eq_ok h
  obtain ⟨⟨ack, _⟩, hack, h⟩ := exists_of_bind_eq_ok h
  obtain ⟨⟨flags, payload⟩, hflags, ⟨⟩⟩ := exists_of_bind_eq_ok h
  simp [encode, take16_eq_ok hsp, take16_eq_ok hdp, take32_eq_ok hseq, take32_eq_ok hack,
    takeFlags_eq_ok hflags]

theorem encode_of_decodeTcpFin {bs : Bytes} {i : Instr} (h : decodeTcpFin bs = .ok i) :
    encode i = ⟨.caller, 0x31 :: bs⟩ := by
  obtain ⟨⟨src, _⟩, hsrc, h⟩ := exists_of_bind_eq_ok h
  obtain ⟨⟨dst, G⟩, hdst, ⟨⟩⟩ := exists_of_bind_eq_ok h
  simp [encode, takeAddr_eq_ok hsrc, takeAddr_eq_ok hdst]

theorem encode_of_decodeStart {bs : Bytes} {i : Instr} (h : decodeStart bs = .ok i) :
    encode i = ⟨.caller, 0x50 :: bs⟩ := by
  obtain ⟨⟨laddr, _⟩, hladdr, h⟩ := exists_of_bind_eq_ok h
  obtain ⟨⟨raddr, _⟩, hraddr, h⟩ := exists_of_bind_eq_ok h
  obtain ⟨⟨rport, _⟩, hrport, h⟩ := exists_of_bind_eq_ok h
  obtain ⟨⟨ready, request⟩, hready, ⟨⟩⟩ := exists_of_bind_eq_ok h
  simp [encode, takeAddr_eq_ok hladdr, takeAddr_eq_ok hraddr, take16_eq_ok hrport,
    takeBool_eq_ok hready]

theorem encode_of_decodeCsmOpen {bs : Bytes} {i : Instr} (h : decodeCsmOpen bs = .ok i) :
    encode i = ⟨.event, 0x40 :: bs⟩ := by
  obtain ⟨⟨port, _⟩, hport, h⟩ := exists_of_bind_eq_ok h
  obtain ⟨⟨iss, _⟩, hiss, h⟩ := exists_of_bind_eq_ok h
  obtain ⟨⟨rport, _⟩, hrport, h⟩ := exists_of_bind_eq_ok h
  obtain ⟨rfl, rfl⟩ := atEnd_eq_ok h
  simp [encode, take16_eq_ok hport, take32_eq_ok hiss, take16_eq_ok hrport]

theorem segmentBytes_of_decodeSegment {bs : Bytes} {g : TcpSegment} (h : decodeSegment bs = .ok g) :
    segmentBytes g = bs := by
  obtain ⟨⟨src, _⟩, hsrc, h⟩ := exists_of_bind_eq_ok h
  obtain ⟨⟨dst, _⟩, hdst, h⟩ := exists_of_bind_eq_ok h
  obtain ⟨⟨sp, _⟩, hsp, h⟩ := exists_of_bind_eq_ok h
  obtain ⟨⟨dp, _⟩, hdp, h⟩ := exists_of_bind_eq_ok h
  obtain ⟨⟨seq, _⟩, hseq, h⟩ := exists_of_bind_eq_ok h
  obtain ⟨⟨ack, _⟩, hack, h⟩ := exists_of_bind_eq_ok h
  obtain ⟨⟨doff, _⟩, hdoff, h⟩ := exists_of_bind_eq_ok h
  obtain ⟨⟨flags, payload⟩, hflags, ⟨⟩⟩ := exists_of_bind_eq_ok h
  simp [segmentBytes, takeAddr_eq_ok hsrc, takeAddr_eq_ok hdst, take16_eq_ok hsp, take16_eq_ok hdp,
    take32_eq_ok hseq, take32_eq_ok hack, takeNibble_eq_ok hdoff, takeFlags_eq_ok hflags]

/-- The two events that take a segment differ in the constructor `f` only. -/
theorem exists_segment_of_map_eq_ok {bs : Bytes} {f : TcpSegment → Instr} {i : Instr}
    (h : (decodeSegment bs).map f = .ok i) : ∃ g, f g = i ∧ segmentBytes g = bs := by
  cases hg : decodeSegment bs with
  | ok g =>
    rw [hg] at h
    exact ⟨g, Except.ok.inj h, segmentBytes_of_decodeSegment hg⟩
  | error e =>
    rw [hg] at h
    cases h

/-! ### Encoding what the decoder has read, place by place -/

theorem encode_of_decodeCaller {code : Byte} {r : Bytes} {i : Instr}
    (h : decodeCaller code r = .ok i) : encode i = ⟨.caller, code :: r⟩ := by
  unfold decodeCaller at h
  obtain ⟨rfl, ⟨⟩⟩ | ⟨-, h⟩ := ite_eq_iff.1 h
  · rfl
  obtain ⟨rfl, h⟩ | ⟨-, h⟩ := ite_eq_iff.1 h
  · exact encode_of_decodeIphBuild h
  obtain ⟨rfl, h⟩ | ⟨-, h⟩ := ite_eq_iff.1 h
  · exact encode_of_decodeIphFin h
  obtain ⟨rfl, h⟩ | ⟨-, h⟩ := ite_eq_iff.1 h
  · exact encode_of_decodeTcpBuild h
  obtain ⟨rfl, h⟩ | ⟨-, h⟩ := ite_eq_iff.1 h
  · exact encode_of_decodeTcpFin h
  obtain ⟨rfl, ⟨⟩⟩ | ⟨-, h⟩ := ite_eq_iff.1 h
  · rfl
  obtain ⟨rfl, h⟩ | ⟨-, h⟩ := ite_eq_iff.1 h
  · exact encode_of_decodeStart h
  obtain ⟨rfl, h⟩ | ⟨-, h⟩ := ite_eq_iff.1 h
  · obtain ⟨rfl, rfl⟩ := atEnd_eq_ok h
    rfl
  obtain ⟨rfl, h⟩ | ⟨-, h⟩ := ite_eq_iff.1 h
  · obtain ⟨rfl, rfl⟩ := atEnd_eq_ok h
    rfl
  obtain ⟨-, ⟨⟩⟩ | ⟨-, ⟨⟩⟩ := ite_eq_iff.1 h

theorem encode_of_decodeEvent {code : Byte} {r : Bytes} {i : Instr}
    (h : decodeEvent code r = .ok i) : encode i = ⟨.event, code :: r⟩ := by
  unfold decodeEvent at h
  obtain ⟨rfl, h⟩ | ⟨-, h⟩ := ite_eq_iff.1 h
  · exact encode_of_decodeCsmOpen h
  obtain ⟨rfl, h⟩ | ⟨-, h⟩ := ite_eq_iff.1 h
  · obtain ⟨g, rfl, rfl⟩ := exists_segment_of_map_eq_ok h
    rfl
  obtain ⟨rfl, h⟩ | ⟨-, h⟩ := ite_eq_iff.1 h
  · obtain ⟨g, rfl, rfl⟩ := exists_segment_of_map_eq_ok h
    rfl
  obtain ⟨rfl, h⟩ | ⟨-, h⟩ := ite_eq_iff.1 h
  · obtain ⟨rfl, rfl⟩ := atEnd_eq_ok h
    rfl
  obtain ⟨rfl, h⟩ | ⟨-, ⟨⟩⟩ := ite_eq_iff.1 h
  obtain ⟨rfl, rfl⟩ := atEnd_eq_ok h
  rfl

@[simp] theorem Phase.code_ofCode (c : BitVec 3) : (Phase.ofCode c).code = c := by
  revert c; decide

@[simp] theorem encode_stepOfPhase (ph : Phase) : encode (stepOfPhase ph) = stepCommand ph := by
  cases ph <;> rfl

/-- The two fields of a PHASE word, bits 15..3 and 2..0, make the word (R79). -/
theorem phaseWord_parts (w : Word16) : w.extractLsb' 3 13 ++ w.extractLsb' 0 3 = w :=
  calc w.extractLsb' 3 13 ++ w.extractLsb' 0 3
    _ = w.extractLsb' 0 16 := BitVec.extractLsb'_append_extractLsb'_eq_extractLsb' (start₂ := 3) rfl
    _ = w := BitVec.extractLsb'_eq_self

theorem encode_of_decodeSequencer {w : Word16} {i : Instr} (h : decodeSequencer w = .ok i) :
    encode i = ⟨.sequencer, be16 w⟩ := by
  obtain ⟨hcode, rfl⟩ := ok_of_guard h
  rw [encode_stepOfPhase, stepCommand, Phase.code_ofCode, ← hcode, phaseWord_parts]

theorem encode_of_decodeBuilt {ph : Phase} {f : Byte} {i : Instr} (h : decodeBuilt ph f = .ok i) :
    encode i = ⟨.built ph, [f]⟩ := by
  cases ph with
  | sendSyn | sendAck | sendReq | sendFinAck => obtain ⟨rfl, rfl⟩ := ok_of_guard h; rfl
  | idle | waitSynAck | recv | done => cases h

theorem encode_of_decodeInbound {ph : Phase} {f : Byte} {i : Instr}
    (h : decodeInbound ph f = .ok i) : encode i = ⟨.inbound ph, [f]⟩ := by
  cases ph with
  | waitSynAck | recv => obtain ⟨-, rfl⟩ := ok_of_guard h; rfl
  | idle | sendSyn | sendAck | sendReq | sendFinAck | done => cases h

/-- Settles O2: at every place the instruction read is encoded by the bytes it was read from. -/
theorem decodedCommandsEncodeBack : Obligations.DecodedCommandsEncodeBack := by
  intro pl bs i h
  unfold decode at h
  split at h
  · exact encode_of_decodeCaller h
  · exact encode_of_decodeEvent h
  · exact be16_word16Of .. ▸ encode_of_decodeSequencer h
  · exact encode_of_decodeBuilt h
  · exact encode_of_decodeInbound h
  · obtain ⟨rfl, rfl⟩ := ok_of_guard h
    rfl
  · obtain ⟨rfl, rfl⟩ := ok_of_guard h
    rfl
  · cases h

/-! ### The codes of the tables (R76 to R80) -/

/-- Settles O3: finitely many commands and codes, computed. -/
theorem wordsOfTheTableDecode : Obligations.WordsOfTheTableDecode := by
  unfold Obligations.WordsOfTheTableDecode
  decide

theorem decodeCaller_of_eventCode {code : Byte} (h : code ∈ [0x40, 0x41, 0x42, 0x43, 0x4F])
    (r : Bytes) : decodeCaller code r = .error (.notOfferedToCaller code) := by
  simp only [List.mem_cons, List.not_mem_nil, or_false] at h
  obtain rfl | rfl | rfl | rfl | rfl := h <;> rfl

theorem decodeCaller_of_unlistedCode {code : Byte}
    (h : code ∉ [0x10, 0x20, 0x21, 0x30, 0x31, 0x32, 0x40, 0x41, 0x42, 0x43, 0x4F, 0x50, 0x51, 0x5F])
    (r : Bytes) : decodeCaller code r = .error (.unusedCode code) := by
  simp only [List.mem_cons, List.not_mem_nil, or_false, not_or, BitVec.ofNat_eq_ofNat] at h
  simp [decodeCaller, isEventCode, h]

/-- Settles O4: the decoder names each of the two kinds of code, and the step refuses with that name. -/
theorem unusedAndForbiddenCodesRefused : Obligations.UnusedAndForbiddenCodesRefused :=
  fun _ _ r _ hcmds =>
    ⟨fun h => step_of_undecodable hcmds (decodeCaller_of_eventCode h r),
      fun h => step_of_undecodable hcmds (decodeCaller_of_unlistedCode h r)⟩

end Sys2Proof
end

section
/-! PROOFS. The encoding (30_encoding.md), second part: the layouts of the built packets (R61, R64) and what
the parser reads from them, the wire patterns as operations (R72, R82), and where a phase step stops. -/

namespace Sys2Proof.Machine

open Sys2Proof.Claims

/-! ### Finalized headers and segments, and their parse -/

/-- A finalized header in R61's layout; `c` is its checksum. -/
theorem exists_iphFin_iphBuild (src dst : Addr) (n : Nat) (id : Word16) :
    ∃ c, iphFin (iphBuild src dst n id) =
      [ipVersionIhl, 0x00] ++ be16 (BitVec.ofNat 16 (20 + n)) ++ be16 id ++ be16 0 ++
        [Config.ttl, Config.protoTcp] ++ be16 c ++ src.bytes ++ dst.bytes :=
  ⟨_, rfl⟩

/-- A finalized segment in R64's layout; `c` is its checksum. -/
theorem exists_tcpFin_tcpBuild (src dst : Addr) (sp dp : Word16) (q a : Word32) (f : BitVec 6)
    (pl : Bytes) :
    ∃ c, tcpFin (tcpBuild sp dp q a f pl) src dst =
      be16 sp ++ be16 dp ++ be32 q ++ be32 a ++ [tcpDataOffset, flagByteOf f] ++
        be16 Config.window ++ be16 c ++ be16 0 ++ pl :=
  ⟨_, rfl⟩

/-- A buffer with the two fixed wire bytes passes every test of R119: no options on either level. -/
theorem tcpParse_of_noOptions {raw : Bytes} (hlen : 40 ≤ raw.length)
    (hihl : readByte raw 0 = some ipVersionIhl) (hdoff : readByte raw 32 = some tcpDataOffset) :
    tcpParse raw = parseFields raw 20 5 := by
  have hshort : ¬ raw.length < 40 := Nat.not_lt.2 hlen
  have hminimum : ¬ raw.length < Config.minParseLen := hshort
  have hnibbles : (lowNibble ipVersionIhl).toNat = 5 ∧ highNibble tcpDataOffset = 5 := by decide
  simp [tcpParse, hshort, hminimum, hihl, hdoff, hnibbles]

theorem length_finalized (src dst : Addr) (n : Nat) (id sp dp : Word16) (q a : Word32)
    (f : BitVec 6) (pl : Bytes) :
    (iphFin (iphBuild src dst n id) ++ tcpFin (tcpBuild sp dp q a f pl) src dst).length =
      40 + pl.length := by
  rw [List.length_append, length_iphFin, length_tcpFin, length_iphBuild, length_tcpBuild]
  omega

theorem tcpParse_finalized (src dst : Addr) (n : Nat) (id sp dp : Word16) (q a : Word32)
    (f : BitVec 6) (pl : Bytes) :
    tcpParse (iphFin (iphBuild src dst n id) ++ tcpFin (tcpBuild sp dp q a f pl) src dst) =
      some { srcAddr := src, dstAddr := dst, sport := sp, dport := dp, seq := q, ack := a, doff := 5,
             flags := f, payload := pl } := by
  have hlen := (Nat.le_add_right 40 pl.length).trans_eq
    (length_finalized src dst n id sp dp q a f pl).symm
  obtain ⟨c, hH⟩ := exists_iphFin_iphBuild src dst n id
  obtain ⟨c', hG⟩ := exists_tcpFin_tcpBuild src dst sp dp q a f pl
  rw [tcpParse_of_noOptions hlen rfl rfl, hH, hG]
  simp [parseFields, readAddr, read16, read32, readByte, be16, be32, Addr.bytes]

theorem tcpParse_packetOf (d : Desc) (id : Word16) (s : State) :
    tcpParse (packetOf d id s) =
      some { srcAddr := s.localAddr, dstAddr := s.remoteAddr, sport := s.localPort,
             dport := s.remotePort, seq := d.seq, ack := d.ack, doff := 5, flags := d.flags,
             payload := d.payload } :=
  tcpParse_finalized ..

/-- The identification of a header stands at offset 4 (R61). -/
theorem read16_finalized (src dst : Addr) (n : Nat) (id : Word16) (G : Bytes) :
    read16 (iphFin (iphBuild src dst n id) ++ G) 4 = some id := by
  obtain ⟨c, hH⟩ := exists_iphFin_iphBuild src dst n id
  simp [hH, read16, readByte, be16]

theorem read16_packetOf (d : Desc) (id : Word16) (s : State) :
    read16 (packetOf d id s) 4 = some id :=
  read16_finalized ..

/-! ### The wire patterns as operations (R61, R64, R72, R82) -/

/-- Settles O44: each shorthand answers the packet of its row's descriptor after one draw. -/
theorem shorthandsBuildTheirPackets : Obligations.ShorthandsBuildTheirPackets := by
  intro s e he hreq
  have hexec : exec e.1 s = .next (answerPacket e.2 s) := by
    simp only [List.mem_cons, List.not_mem_nil, or_false] at he
    obtain rfl | rfl | rfl | rfl := he
    · rfl
    · rfl
    · exact if_pos (hreq rfl)
    · rfl
  rw [answerPacket_eq] at hexec
  exact ⟨(draw16 s).1, _, hexec, rfl, draw16_trace s, fun _ _ => draw16_of_script,
    ⟨draw16_cmds s, draw16_draws32 s, draw16_ticks s, draw16_statuses s, draw16_packets s,
      draw16_clock s⟩, read16_packetOf .., tcpParse_packetOf ..⟩

/-- A flag of a received byte is the bit at its place (R70). -/
theorem getLsbD_flagsOfByte (b : Byte) {k : Nat} (hk : k < 6) :
    (flagsOfByte b).getLsbD k = b.getLsbD k := by
  simp [flagsOfByte, hk]

/-- Settles O45: the tests on the flag set, read at the bits of the byte. -/
theorem inboundTestsLookAtTheirMaskOnly : Obligations.InboundTestsLookAtTheirMaskOnly := by
  intro f s
  have hsynAck : synAckSet (flagsOfByte f) = (f.getLsbD 1 && f.getLsbD 4) := by
    rw [synAckSet_eq, getLsbD_flagsOfByte f (by decide), getLsbD_flagsOfByte f (by decide)]
  have hfin : finSet (flagsOfByte f) = f.getLsbD 0 := by
    rw [finSet_eq, getLsbD_flagsOfByte f (by decide)]
  exact ⟨hsynAck ▸ rfl, hfin ▸ rfl⟩

/-- Settles O46: the bytes stand at fixed offsets of what the builders write. -/
theorem fixedWireBytesAreTheBuilders : Obligations.FixedWireBytesAreTheBuilders :=
  fun _ _ _ _ _ _ _ _ _ _ _ => ⟨rfl, rfl, rfl, rfl⟩

/-! ### Where a phase step stops (R154 to R163, R202) -/

theorem refused_of_not_atPhase {ph : Phase} {s : State} (x : Host.Outcome State Fault Refusal)
    (h : ¬ (s.phase = ph ∧ s.tag = ph.tag)) :
    (if atPhase ph s then x else .refused .outsidePrecondition) = .refused .outsidePrecondition :=
  if_neg (mt (atPhase_iff ph s).1 h)

theorem receiveThen_of_overrun {s : State} {p : Bytes} {ps : List Bytes}
    (hp : s.outside.packets = p :: ps) (hlen : 65535 < p.length) (rest : State → State) :
    receiveThen rest s = .fault .receiveOverrun := by
  have hlong : ¬ p.length ≤ Config.rxBufBytes := Nat.not_le.2 hlen
  have hr : receive s = .error .receiveOverrun := by simp only [receive, hp, if_neg hlong]
  simp only [receiveThen, hr]

theorem fault_of_overrun {ph : Phase} {s : State} {p : Bytes} {ps : List Bytes}
    (hp : s.outside.packets = p :: ps) (hlen : 65535 < p.length) (rest : State → State)
    (hph : s.phase = ph) (htag : s.tag = ph.tag) :
    (if atPhase ph s then receiveThen rest s else .refused .outsidePrecondition) =
      .fault .receiveOverrun :=
  (if_pos ((atPhase_iff ph s).2 ⟨hph, htag⟩)).trans (receiveThen_of_overrun hp hlen rest)

/-- Settles O32: each phase step tests its phase and tag first, and a waiting step then receives. -/
theorem phaseStepsStopElsewhere : Obligations.PhaseStepsStopElsewhere :=
  ⟨fun _ h => if_neg h,
    fun _ h => refused_of_not_atPhase _ h,
    fun _ h => refused_of_not_atPhase _ h,
    fun _ h => refused_of_not_atPhase _ h,
    fun _ h => refused_of_not_atPhase _ h,
    fun _ h => refused_of_not_atPhase _ h,
    fun _ h => refused_of_not_atPhase _ h,
    fun _ h => if_neg h,
    fun _ _ _ hp hlen => ⟨fault_of_overrun hp hlen pollInWait, fault_of_overrun hp hlen pollInRecv⟩⟩

end Sys2Proof.Machine
end

section
/-! PROOFS. The checksum unit (40_checksum_engine.md): the loop's running sum as a residue of the sum of the
words, R92's facts about it, self-verification (R93) and the corner cases (R94). -/

namespace Sys2Proof.Machine

open Sys2Proof.Claims

/-! ### The folded sum (R92) -/

/-- What the folds leave of words with the sum `T` (R92 b): 0 for 0, else the residue from 1 to 0xFFFF. -/
def foldedSum (T : Nat) : Nat := if T = 0 then 0 else (T - 1) % 0xFFFF + 1

theorem foldedSum_le (T : Nat) : foldedSum T ≤ 0xFFFF := by
  unfold foldedSum
  split_ifs <;> omega

theorem foldedSum_of_le {T : Nat} (h : T ≤ 0xFFFF) : foldedSum T = T := by
  unfold foldedSum
  split_ifs <;> omega

/-- One's-complement addition of a word: one fold brings the sum back into range (R92 a). -/
theorem foldedSum_add (T : Nat) {w : Nat} (hw : w ≤ 0xFFFF) :
    foldedSum (T + w) =
      if foldedSum T + w ≤ 0xFFFF then foldedSum T + w else foldedSum T + w - 0xFFFF := by
  unfold foldedSum
  split_ifs <;> omega

theorem closedForm_eq (T : Nat) : closedForm T = 0xFFFF - foldedSum T := by
  unfold closedForm foldedSum
  split_ifs <;> rfl

/-- The folded sum and its complement add to 0xFFFF (R93). -/
theorem foldedSum_add_closedForm (T : Nat) : foldedSum (T + closedForm T) = 0xFFFF := by
  rw [closedForm_eq, foldedSum_add T (Nat.sub_le ..), Nat.add_sub_cancel' (foldedSum_le T),
    if_pos le_rfl]

/-! ### The loop (R91) -/

theorem toNat_add_word {sum : Word32} (h : sum.toNat ≤ 0xFFFF) (w : Word16) :
    (sum + w.setWidth 32).toNat = sum.toNat + w.toNat := by
  have hw := w.isLt
  rw [BitVec.toNat_add, BitVec.toNat_setWidth]
  omega

theorem toNat_addWord {sum : Word32} {T : Nat} (h : sum.toNat = foldedSum T) (w : Word16) :
    (addWord sum w).toNat = foldedSum (T + w.toNat) := by
  have hw : w.toNat ≤ 0xFFFF := Nat.le_of_lt_succ w.isLt
  have hsum : sum.toNat ≤ 0xFFFF := h ▸ foldedSum_le T
  have hadd := toNat_add_word hsum w
  rw [addWord, fold_toNat _ (by omega), hadd, h, foldedSum_add T hw]

/-- The last byte of an odd length is the high byte of a padded word. -/
theorem wordTotal_singleton (last : Byte) : wordTotal [last] = (word16Of last 0).toNat := by
  simp [toNat_word16Of, wordTotal]

theorem toNat_csumLoop (B : Bytes) {sum : Word32} {T : Nat} (h : sum.toNat = foldedSum T) :
    (csumLoop B sum).toNat = foldedSum (T + wordTotal B) := by
  induction B, sum using csumLoop.induct generalizing T with
  | case1 hi lo rest sum ih =>
    rw [csumLoop, wordTotal, ← toNat_word16Of, ← Nat.add_assoc]
    exact ih (toNat_addWord h _)
  | case2 last sum => exact wordTotal_singleton last ▸ toNat_addWord h _
  | case3 sum => exact h

theorem toNat_csumLoop_zero (B : Bytes) : (csumLoop B 0).toNat = foldedSum (wordTotal B) := by
  simpa using toNat_csumLoop B (sum := 0) (T := 0) rfl

theorem fold_of_le {sum : Word32} (h : sum.toNat ≤ 0xFFFF) : fold sum = sum :=
  BitVec.eq_of_toNat_eq (by rw [fold_toNat sum (by omega), if_pos h])

theorem toNat_csumLoop_zero_le (B : Bytes) : (csumLoop B 0).toNat ≤ 0xFFFF :=
  toNat_csumLoop_zero B ▸ foldedSum_le _

theorem fold_csumLoop_zero (B : Bytes) : fold (csumLoop B 0) = csumLoop B 0 :=
  fold_of_le (toNat_csumLoop_zero_le B)

theorem toNat_csum (B : Bytes) : (csum B).toNat = closedForm (wordTotal B) := by
  have hle := toNat_csumLoop_zero_le B
  rw [csum, fold_csumLoop_zero, closedForm_eq, ← toNat_csumLoop_zero, BitVec.extractLsb'_toNat,
    BitVec.toNat_not, Nat.shiftRight_zero]
  omega

/-- The checksum depends on the sum of the words only (R92 c). -/
theorem csum_eq_of_wordTotal_eq {B C : Bytes} (h : wordTotal B = wordTotal C) : csum B = csum C :=
  BitVec.eq_of_toNat_eq (by rw [toNat_csum, toNat_csum, h])

theorem csum_eq_zero_iff (B : Bytes) : csum B = 0 ↔ foldedSum (wordTotal B) = 0xFFFF := by
  have hle := foldedSum_le (wordTotal B)
  have hzero : (0 : Word16).toNat = 0 := rfl
  rw [← BitVec.toNat_inj, toNat_csum, closedForm_eq, hzero]
  omega

/-- Settles O6: the folded sum of the loop, complemented. -/
theorem csumAnswersClosedForm : Obligations.CsumAnswersClosedForm := by
  intro B s
  rw [← toNat_csum, BitVec.ofNat_toNat, BitVec.setWidth_eq]
  rfl

/-! ### The sum of the words -/

theorem wordTotal_be16_append (v : Word16) (B : Bytes) :
    wordTotal (be16 v ++ B) = v.toNat + wordTotal B := by
  simp only [be16, List.cons_append, List.nil_append, wordTotal, ← toNat_word16Of, word16Of_bytes]

theorem wordTotal_flatMap_be16 (ws : List Word16) :
    wordTotal (ws.flatMap be16) = (ws.map BitVec.toNat).sum := by
  induction ws with
  | nil => rfl
  | cons w ws ih => rw [List.flatMap_cons, wordTotal_be16_append, ih, List.map_cons, List.sum_cons]

/-- Settles O7: each addition and the loop's result in numbers, the sum of permuted words, and two bytes whose
order matters. -/
theorem csumArithmeticFacts : Obligations.CsumArithmeticFacts := by
  refine ⟨fun sum w h => ⟨toNat_add_word h w, ?_⟩,
    fun B => ⟨toNat_csumLoop_zero_le B, fold_csumLoop_zero B⟩,
    fun ws vs h => csum_eq_of_wordTotal_eq ?_, 0, 1, by decide⟩
  · exact toNat_addWord (foldedSum_of_le h).symm w ▸ foldedSum_le _
  · rw [wordTotal_flatMap_be16, wordTotal_flatMap_be16, (h.map _).sum_eq]

/-! ### Self-verification (R93) -/

/-- A value written big-endian over two zero bytes at an even offset is one more word of the sum. -/
theorem wordTotal_write16 (v : Word16) {B : Bytes} {k : Nat} (hk : k % 2 = 0) (hhi : B[k]? = some 0)
    (hlo : B[k + 1]? = some 0) : wordTotal (write16 B k v) = wordTotal B + v.toNat := by
  induction B using wordTotal.induct generalizing k with
  | case1 hi lo rest ih =>
    match k with
    | 0 =>
      obtain rfl : hi = 0 := by simpa using hhi
      obtain rfl : lo = 0 := by simpa using hlo
      calc wordTotal (write16 (0 :: 0 :: rest) 0 v)
        _ = v.toNat + wordTotal rest := wordTotal_be16_append v rest
        _ = wordTotal (0 :: 0 :: rest) + v.toNat := by simp [wordTotal, Nat.add_comm]
    | k + 2 =>
      have hrest : wordTotal (write16 rest k v) = wordTotal rest + v.toNat := ih (by omega) hhi hlo
      calc wordTotal (write16 (hi :: lo :: rest) (k + 2) v)
        _ = hi.toNat * 256 + lo.toNat + wordTotal (write16 rest k v) := rfl
        _ = wordTotal (hi :: lo :: rest) + v.toNat := by simp only [hrest, wordTotal, Nat.add_assoc]
  | case2 last => simp at hlo
  | case3 => simp at hlo

theorem csum_write16_csum {B : Bytes} {k : Nat} (hk : k % 2 = 0) (hhi : B[k]? = some 0)
    (hlo : B[k + 1]? = some 0) : csum (write16 B k (csum B)) = 0 := by
  rw [csum_eq_zero_iff, wordTotal_write16 _ hk hhi hlo, toNat_csum, foldedSum_add_closedForm]

/-- Settles O8: the inserted word complements the folded sum; at the odd offset 1 of `[1, 0, 0]` it is split
over two words. -/
theorem checksumVerifiesItself : Obligations.ChecksumVerifiesItself :=
  ⟨fun _ _ hk _ hhi hlo => csum_write16_csum hk hhi hlo, ⟨[1, 0, 0], 1, by decide⟩, rfl,
    fun _ _ _ => rfl⟩

/-! ### Corner cases (R94) -/

theorem wordTotal_replicate_zero : ∀ n : Nat, wordTotal (List.replicate n 0) = 0
  | 0 | 1 => rfl
  | n + 2 => by simpa [List.replicate_succ, wordTotal] using wordTotal_replicate_zero n

theorem wordTotal_replicate_ones (n : Nat) :
    wordTotal (List.replicate (2 * n) 0xFF) = n * 0xFFFF := by
  induction n with
  | zero => rfl
  | succ n ih =>
    have hbyte : (0xFF : Byte).toNat = 255 := rfl
    rw [Nat.mul_succ, List.replicate_succ, List.replicate_succ, wordTotal, ih, hbyte]
    omega

theorem wordTotal_append_zero (B : Bytes) : wordTotal (B ++ [0]) = wordTotal B := by
  induction B using wordTotal.induct with
  | case1 hi lo rest ih => simpa [wordTotal] using ih
  | case2 last => simp [wordTotal]
  | case3 => rfl

theorem toNat_csum_singleton (b : Byte) : (csum [b]).toNat = 0xFFFF - b.toNat * 256 := by
  have hb := b.isLt
  rw [toNat_csum, closedForm_eq, wordTotal, foldedSum_of_le (by omega)]

theorem foldedSum_multiple (n : Nat) : foldedSum ((n + 1) * 0xFFFF) = 0xFFFF := by
  unfold foldedSum
  split_ifs <;> omega

/-- Settles O9: the sum of the words of each buffer, folded. -/
theorem csumCornerCases : Obligations.CsumCornerCases := by
  refine ⟨rfl, toNat_csum_singleton, fun n => ?_, fun n => ?_,
    fun B => csum_eq_of_wordTotal_eq (wordTotal_append_zero B)⟩
  · exact csum_eq_of_wordTotal_eq (C := []) (wordTotal_replicate_zero n)
  · rw [csum_eq_zero_iff, wordTotal_replicate_ones, foldedSum_multiple]

end Sys2Proof.Machine
end

section
/-! PROOFS. The ipv4_header_builder (41_ipv4_header_builder.md): the built header field by field (R101), what
finalizing writes and keeps (R103 to R105), and the operands that are refused (R102, R112, R113). -/

namespace Sys2Proof.Machine

open Sys2Proof.Claims

/-! ### Two bytes written into a buffer (R43) -/

theorem write16_append (A : Bytes) (hi lo : Byte) (C : Bytes) (v : Word16) :
    write16 (A ++ hi :: lo :: C) A.length v = A ++ be16 v ++ C := by
  simp [write16, be16]

/-- A two-byte write that stays in the buffer replaces two bytes and nothing else. -/
theorem write16_eq_append {B : Bytes} {k : Nat} (h : k + 1 < B.length) (v : Word16) :
    write16 B k v = B.take k ++ be16 v ++ B.drop (k + 2) := by
  have hk : k < B.length := by omega
  have hsplit : B = B.take k ++ B[k] :: B[k + 1] :: B.drop (k + 2) := by simp
  have hat := write16_append (B.take k) B[k] B[k + 1] (B.drop (k + 2)) v
  rwa [← hsplit, List.length_take_of_le hk.le] at hat

theorem write16_zero_eq_zeroedAt {B : Bytes} {k : Nat} (h : k + 1 < B.length) :
    write16 B k 0 = zeroedAt B k :=
  write16_eq_append h 0

/-- The two bytes written stand at their offsets, the high one first. -/
theorem getElem?_write16_self {B : Bytes} {k : Nat} (h : k + 1 < B.length) (v : Word16) :
    (write16 B k v)[k]? = some (v.extractLsb' 8 8) ∧
      (write16 B k v)[k + 1]? = some (v.extractLsb' 0 8) := by
  have hk : k < B.length := by omega
  simp [write16, h, hk]

/-- The checksum written over the zeroed field makes the buffer sum to zero (R93). -/
theorem csum_checksummed {B : Bytes} {k : Nat} (hk : k % 2 = 0) (h : k + 1 < B.length) :
    csum (write16 (write16 B k 0) k (csum (write16 B k 0))) = 0 := by
  obtain ⟨hhi, hlo⟩ := getElem?_write16_self h 0
  exact csum_write16_csum hk hhi hlo

/-! ### Finalizing a header (R103 to R105) -/

/-- Zeroing the field first loses what it held (R104). -/
theorem iphFin_write16 (H : Bytes) (v : Word16) : iphFin (write16 H 10 v) = iphFin H := by
  simp only [iphFin, ipChecksumOffset, write16_write16]

theorem iphFin_iphFin (H : Bytes) : iphFin (iphFin H) = iphFin H :=
  calc iphFin (iphFin H)
    _ = iphFin (write16 H 10 0) := iphFin_write16 ..
    _ = iphFin H := iphFin_write16 ..

/-- A field in front of the checksum is left as it was (R103). -/
theorem read16_iphFin_of_lt (H : Bytes) {k : Nat} (h : k + 1 < 10) :
    read16 (iphFin H) k = read16 H k := by
  have hhi : (iphFin H)[k]? = H[k]? := iphFin_of_ne H k (by omega) (by omega)
  have hlo : (iphFin H)[k + 1]? = H[k + 1]? := iphFin_of_ne H (k + 1) (by omega) (by omega)
  simp only [read16, readByte, hhi, hlo]

theorem read16_iphFin_self {H : Bytes} (h : H.length = 20) :
    read16 (iphFin H) 10 = some (csum (zeroedAt H 10)) := by
  have hfield : 10 + 1 < H.length := by omega
  have hzeroed : 10 + 1 < (write16 H 10 0).length := by rwa [length_write16]
  rw [← write16_zero_eq_zeroedAt hfield]
  exact read16_write16 _ 10 _ hzeroed

/-- Settles O11: the checksum is read back at its offset, and the write keeps the other bytes. -/
theorem iphFinPatchesTheChecksum : Obligations.IphFinPatchesTheChecksum :=
  fun H _ h => ⟨iphFin H, if_pos h, (length_iphFin H).trans h, iphFin_of_ne H, read16_iphFin_self h, rfl⟩

/-! ### A built header (R101) -/

/-- The total length is exact within R102's bound. -/
theorem toNat_totalLength {n : Nat} (h : n ≤ 65515) : (BitVec.ofNat 16 (20 + n)).toNat = 20 + n := by
  rw [BitVec.toNat_ofNat, Nat.mod_eq_of_lt (by omega)]

theorem read16_iphBuild_totalLength (src dst : Addr) (n : Nat) (ident : Word16) :
    read16 (iphBuild src dst n ident) 2 = some (BitVec.ofNat 16 (20 + n)) :=
  congrArg some (word16Of_bytes _)

theorem read16_iphBuild_ident (src dst : Addr) (n : Nat) (ident : Word16) :
    read16 (iphBuild src dst n ident) 4 = some ident :=
  congrArg some (word16Of_bytes _)

/-- Settles O10: the bytes stand where R61's layout has them, and the two 16-bit fields that vary are read
back from theirs. -/
theorem iphBuildLaysOutTheHeader : Obligations.IphBuildLaysOutTheHeader :=
  fun src dst n ident _ h =>
    ⟨iphBuild src dst n ident, BitVec.ofNat 16 (20 + n), if_pos h, rfl, rfl, rfl,
      read16_iphBuild_totalLength .., toNat_totalLength h, read16_iphBuild_ident .., rfl, rfl, rfl, rfl,
      rfl, rfl, rfl⟩

/-- Settles O12: zeroing forgets the field, the field is at an even offset of the header's 20 bytes, and the
bytes before it are the built header's. -/
theorem finalizedHeaderVerifies : Obligations.FinalizedHeaderVerifies :=
  ⟨fun H h => ⟨iphFin_iphFin H, iphFin_write16 H, csum_checksummed (k := 10) rfl (by omega)⟩,
    fun src dst n ident h => ⟨BitVec.ofNat 16 (20 + n), length_iphFin _,
      iphFin_of_ne _ 0 (by decide) (by decide),
      (read16_iphFin_of_lt _ (by decide)).trans (read16_iphBuild_totalLength src dst n ident),
      toNat_totalLength h⟩⟩

/-! ### The built packet, parsed (R122) -/

/-- Settles O19: the parse of a finalized header and segment, for the header whose payload is the segment. -/
theorem parseOfBuiltPacketGivesOperandsBack : Obligations.ParseOfBuiltPacketGivesOperandsBack :=
  fun src dst id sp dp q a f pl _ => tcpParse_finalized src dst _ id sp dp q a f pl

/-! ### Operands out of range (R102, R103, R112, R113, R82) -/

/-- Settles O20: each operation tests the bound of its rule before it answers. -/
theorem operandsOutOfRangeRefused : Obligations.OperandsOutOfRangeRefused :=
  ⟨fun _ _ _ _ _ h => if_neg (Nat.not_le.2 h),
    fun _ _ h => if_neg h,
    fun _ _ _ _ _ _ _ h => if_neg (Nat.not_le.2 h),
    fun G _ _ _ h => if_neg (show ¬ (20 ≤ G.length ∧ G.length ≤ 65515) by omega),
    fun _ h => if_neg (Nat.not_le.2 h)⟩

end Sys2Proof.Machine
end

section
/-! PROOFS. The tcp_segment_builder (42_tcp_segment_builder.md): the built segment field by field (R111), what
finalizing writes and keeps (R113, R114), and what the parser tests and reads (R117 to R121). -/

namespace Sys2Proof.Machine

open Sys2Proof.Claims

/-! ### A built segment (R111) -/

theorem toNat_flagByteOf (f : BitVec 6) : (flagByteOf f).toNat = f.toNat :=
  BitVec.toNat_setWidth_of_le (by decide)

/-- Settles O13: the bytes stand where R64's layout has them, and the ports and numbers are read back from
theirs. -/
theorem tcpBuildLaysOutTheSegment : Obligations.TcpBuildLaysOutTheSegment :=
  fun sp dp q a f payload _ h =>
    ⟨tcpBuild sp dp q a f payload, flagByteOf f, if_pos h, length_tcpBuild ..,
      congrArg some (word16Of_bytes sp), congrArg some (word16Of_bytes dp),
      congrArg some (word32Of_bytes q), congrArg some (word32Of_bytes a), rfl, rfl, toNat_flagByteOf f,
      rfl, rfl, rfl, rfl, rfl⟩

/-! ### Finalizing a segment (R113, R114) -/

/-- Zeroing the field first loses what it held (R114 a). -/
theorem tcpFin_write16 (G : Bytes) (v : Word16) (src dst : Addr) :
    tcpFin (write16 G 16 v) src dst = tcpFin G src dst := by
  simp only [tcpFin, tcpChecksumOffset, write16_write16, length_write16]

theorem tcpFin_tcpFin (G : Bytes) (src dst : Addr) :
    tcpFin (tcpFin G src dst) src dst = tcpFin G src dst :=
  calc tcpFin (tcpFin G src dst) src dst
    _ = tcpFin (write16 G 16 0) src dst := tcpFin_write16 ..
    _ = tcpFin G src dst := tcpFin_write16 ..

theorem append_write16 (P B : Bytes) (k : Nat) (v : Word16) :
    P ++ write16 B k v = write16 (P ++ B) (P.length + k) v := by
  simp [write16, List.set_append_right, Nat.add_assoc]

theorem length_pseudoHeader (src dst : Addr) (n : Nat) : (pseudoHeader src dst n).length = 12 := rfl

/-- Behind its pseudo-header the segment's checksum field is at the even offset 28, so the two together are a
buffer with its own checksum written into it (R93, R114 b). -/
theorem csum_pseudoHeader_tcpFin {G : Bytes} (h : 20 ≤ G.length) (src dst : Addr) :
    csum (pseudoHeader src dst G.length ++ tcpFin G src dst) = 0 := by
  have hfield : 28 + 1 < (pseudoHeader src dst G.length ++ G).length := by
    rw [List.length_append, length_pseudoHeader]
    omega
  rw [tcpFin, append_write16, append_write16]
  exact csum_checksummed (k := 28) rfl hfield

/-- Settles O15: zeroing forgets the field, the checksum covers the pseudo-header, and for twenty zero bytes
another destination gives another checksum. -/
theorem finalizedSegmentVerifies : Obligations.FinalizedSegmentVerifies :=
  ⟨fun G src dst h =>
      ⟨tcpFin_tcpFin G src dst, fun v => tcpFin_write16 G v src dst, csum_pseudoHeader_tcpFin h src dst⟩,
    List.replicate 20 0, ⟨0, 0, 0, 0⟩, ⟨0, 0, 0, 0⟩, ⟨0, 0, 0, 1⟩, by decide +kernel⟩

theorem read16_tcpFin_self {G : Bytes} (h : 20 ≤ G.length) (src dst : Addr) :
    read16 (tcpFin G src dst) 16 = some (csum (pseudoHeader src dst G.length ++ zeroedAt G 16)) := by
  have hfield : 16 + 1 < G.length := by omega
  have hzeroed : 16 + 1 < (write16 G 16 0).length := by rwa [length_write16]
  rw [← write16_zero_eq_zeroedAt hfield]
  exact read16_write16 _ 16 _ hzeroed

/-- The two bytes of a 16-bit length, as numbers. -/
theorem toNat_lengthBytes {n : Nat} (h : n ≤ 65515) :
    ((BitVec.ofNat 16 n).extractLsb' 8 8).toNat * 256 + ((BitVec.ofNat 16 n).extractLsb' 0 8).toNat =
      n := by
  rw [← toNat_word16Of, word16Of_bytes, BitVec.toNat_ofNat, Nat.mod_eq_of_lt (by omega)]

/-- Settles O14: the checksum is read back at its offset, and the write keeps the other bytes. -/
theorem tcpFinPatchesTheChecksum : Obligations.TcpFinPatchesTheChecksum :=
  fun G src dst _ hmin hmax =>
    ⟨tcpFin G src dst, _, _, if_pos ⟨hmin, hmax⟩, length_tcpFin G src dst, tcpFin_of_ne G src dst,
      toNat_lengthBytes hmax, read16_tcpFin_self hmin src dst, rfl⟩

/-! ### Reads inside a buffer -/

theorem readByte_of_lt {B : Bytes} {k : Nat} (h : k < B.length) : readByte B k = some (B.getD k 0) := by
  simp [readByte, h]

theorem exists_read16 {B : Bytes} {k : Nat} (h : k + 1 < B.length) : ∃ v, read16 B k = some v := by
  rw [read16, readByte_of_lt h, readByte_of_lt (by omega)]
  exact ⟨_, rfl⟩

theorem exists_read32 {B : Bytes} {k : Nat} (h : k + 3 < B.length) : ∃ v, read32 B k = some v := by
  rw [read32, readByte_of_lt h, readByte_of_lt (by omega), readByte_of_lt (by omega),
    readByte_of_lt (by omega)]
  exact ⟨_, rfl⟩

theorem exists_readAddr {B : Bytes} {k : Nat} (h : k + 3 < B.length) : ∃ a, readAddr B k = some a := by
  rw [readAddr, readByte_of_lt h, readByte_of_lt (by omega), readByte_of_lt (by omega),
    readByte_of_lt (by omega)]
  exact ⟨_, rfl⟩

theorem getElem?_of_lt {B : Bytes} {k : Nat} (h : k < B.length) : B[k]? = some (B.getD k 0) :=
  readByte_of_lt h

/-! ### What the parser tests and reads (R117 to R119) -/

/-- Each field of a parsed segment is one read of the buffer (R116, R118, R121). -/
theorem parseFields_eq_some_iff {raw : Bytes} {t : Nat} {doff : BitVec 4} {seg : TcpSegment} :
    parseFields raw t doff = some seg ↔
      readAddr raw 12 = some seg.srcAddr ∧ readAddr raw 16 = some seg.dstAddr ∧
      read16 raw t = some seg.sport ∧ read16 raw (t + 2) = some seg.dport ∧
      read32 raw (t + 4) = some seg.seq ∧ read32 raw (t + 8) = some seg.ack ∧ doff = seg.doff ∧
      (readByte raw (t + 13)).map flagsOfByte = some seg.flags ∧
      raw.drop (t + doff.toNat * 4) = seg.payload := by
  obtain ⟨srcAddr, dstAddr, sport, dport, seq, ack, doff', flags, payload⟩ := seg
  cases hb : readByte raw (t + 13) with
  | none => simp [parseFields, hb]
  | some b => simp [parseFields, hb, Option.bind_eq_some_iff]

/-- No read of the fields leaves a buffer that holds both headers (R117). -/
theorem exists_parseFields {raw : Bytes} {t : Nat} (doff : BitVec 4) (hlen : 40 ≤ raw.length)
    (ht : t + 20 ≤ raw.length) : ∃ seg, parseFields raw t doff = some seg := by
  obtain ⟨srcAddr, hsrc⟩ := exists_readAddr (B := raw) (k := 12) (by omega)
  obtain ⟨dstAddr, hdst⟩ := exists_readAddr (B := raw) (k := 16) (by omega)
  obtain ⟨sport, hsport⟩ := exists_read16 (B := raw) (k := t) (by omega)
  obtain ⟨dport, hdport⟩ := exists_read16 (B := raw) (k := t + 2) (by omega)
  obtain ⟨seq, hseq⟩ := exists_read32 (B := raw) (k := t + 4) (by omega)
  obtain ⟨ack, hack⟩ := exists_read32 (B := raw) (k := t + 8) (by omega)
  have hflags := congrArg (Option.map flagsOfByte) (readByte_of_lt (B := raw) (k := t + 13) (by omega))
  exact ⟨⟨srcAddr, dstAddr, sport, dport, seq, ack, doff, _, _⟩,
    parseFields_eq_some_iff.2 ⟨hsrc, hdst, hsport, hdport, hseq, hack, rfl, hflags, rfl⟩⟩

/-- R119's `IHL`. -/
def ihlOf (raw : Bytes) : Nat := (raw.getD 0 0).toNat % 16

/-- R119's `dataOffset`, at its offset from the TCP header. -/
def doffOf (raw : Bytes) : BitVec 4 := highNibble (raw.getD (ihlOf raw * 4 + 12) 0)

/-- The buffer is long enough and within R119's four bounds. -/
def HeadersFit (raw : Bytes) : Prop :=
  40 ≤ raw.length ∧ 5 ≤ ihlOf raw ∧ ihlOf raw * 4 + 20 ≤ raw.length ∧
    5 ≤ (doffOf raw).toNat ∧ ihlOf raw * 4 + (doffOf raw).toNat * 4 ≤ raw.length

/-- `TCP.PARSE` in two parts: the tests in R117's order, each after the read it needs, then the fields. -/
theorem tcpParse_eq_some_iff {raw : Bytes} {seg : TcpSegment} :
    tcpParse raw = some seg ↔
      HeadersFit raw ∧ parseFields raw (ihlOf raw * 4) (doffOf raw) = some seg := by
  have hihl : (lowNibble (raw.getD 0 0)).toNat = ihlOf raw := lowNibble_toNat _
  have hdoff : highNibble (raw.getD (ihlOf raw * 4 + 12) 0) = doffOf raw := rfl
  simp only [tcpParse, HeadersFit, Config.minParseLen, Option.ite_none_left_eq_some, Nat.not_lt,
    Option.bind_eq_bind, Option.bind_eq_some_iff, and_assoc]
  refine and_congr_right fun hlen => ?_
  rw [readByte_of_lt (by omega)]
  simp only [Option.some_inj, exists_eq_left', hihl]
  refine and_congr_right fun _ => and_congr_right fun hroom => ?_
  rw [readByte_of_lt (by omega)]
  simp only [Option.some_inj, exists_eq_left', hdoff]

theorem tcpParse_eq_none_iff {raw : Bytes} : tcpParse raw = none ↔ ¬ HeadersFit raw := by
  constructor
  · intro hnone hfit
    obtain ⟨hlen, -, hroom, -⟩ := id hfit
    obtain ⟨seg, hseg⟩ := exists_parseFields (doffOf raw) hlen hroom
    exact Option.some_ne_none seg ((tcpParse_eq_some_iff.2 ⟨hfit, hseg⟩).symm.trans hnone)
  · intro hfit
    exact Option.eq_none_iff_forall_ne_some.2 fun seg hseg => hfit (tcpParse_eq_some_iff.1 hseg).1

/-- Settles O16: the parse fails exactly when a test does, since no read can; each test looks at a byte that
the tests before it leave inside the buffer. -/
theorem parseIsNullExactlyOnTheBounds : Obligations.ParseIsNullExactlyOnTheBounds := by
  intro raw s
  refine ⟨tcpParse raw, rfl, ?_⟩
  rw [tcpParse_eq_none_iff, HeadersFit]
  simp only [not_and_or, not_le]
  refine or_congr_right' fun hlen => ?_
  rw [getElem?_of_lt (by omega)]
  simp only [Option.some_inj, exists_eq_left']
  refine or_congr_right' fun _ => or_congr_right' fun hroom => ?_
  rw [ihlOf] at hroom
  rw [getElem?_of_lt (by omega)]
  simp only [Option.some_inj, exists_eq_left', doffOf, highNibble_toNat, ihlOf]

/-- Settles O17: the tests leave the three bytes inside the buffer, and each field is a read. -/
theorem parsedFieldsAreTheBuffers : Obligations.ParsedFieldsAreTheBuffers := by
  intro raw s seg h
  have hparse : tcpParse raw = some seg :=
    Answer.segment.inj (congrArg (fun t => t.outside.answer) (Host.Outcome.next.inj h))
  obtain ⟨⟨hlen, -, ht, -⟩, hfields⟩ := tcpParse_eq_some_iff.1 hparse
  obtain ⟨hsrc, hdst, hsport, hdport, hseq, hack, hdoff, hflags, hpayload⟩ :=
    parseFields_eq_some_iff.1 hfields
  have hdoffNat : (doffOf raw).toNat = (raw.getD (ihlOf raw * 4 + 12) 0).toNat / 16 :=
    highNibble_toNat _
  refine ⟨raw.getD 0 0, raw.getD (ihlOf raw * 4 + 12) 0, raw.getD (ihlOf raw * 4 + 13) 0,
    readByte_of_lt (by omega), readByte_of_lt (k := ihlOf raw * 4 + 12) (by omega),
    readByte_of_lt (k := ihlOf raw * 4 + 13) (by omega), hsrc, hdst, hsport, hdport, hseq, hack,
    ?_, ?_, ?_⟩
  · rw [← hdoff, hdoffNat]
  · rw [readByte_of_lt (by omega), Option.map_some, Option.some_inj] at hflags
    rw [← hflags, flagsOfByte_toNat]
  · rw [← hpayload, hdoffNat]
    rfl

/-! ### What the parser does not look at (R120) -/

theorem read16_congr {B C : Bytes} {k : Nat} (h : ∀ i, k ≤ i → i < k + 2 → B[i]? = C[i]?) :
    read16 B k = read16 C k := by
  simp only [read16, readByte, h k (by omega) (by omega), h (k + 1) (by omega) (by omega)]

theorem read32_congr {B C : Bytes} {k : Nat} (h : ∀ i, k ≤ i → i < k + 4 → B[i]? = C[i]?) :
    read32 B k = read32 C k := by
  simp only [read32, readByte, h k (by omega) (by omega), h (k + 1) (by omega) (by omega),
    h (k + 2) (by omega) (by omega), h (k + 3) (by omega) (by omega)]

theorem readAddr_congr {B C : Bytes} {k : Nat} (h : ∀ i, k ≤ i → i < k + 4 → B[i]? = C[i]?) :
    readAddr B k = readAddr C k := by
  simp only [readAddr, readByte, h k (by omega) (by omega), h (k + 1) (by omega) (by omega),
    h (k + 2) (by omega) (by omega), h (k + 3) (by omega) (by omega)]

theorem flagsRead_congr {B C : Bytes} {k : Nat} (hlen : B.length = C.length)
    (h : (B.getD k 0).toNat % 64 = (C.getD k 0).toNat % 64) :
    (readByte B k).map flagsOfByte = (readByte C k).map flagsOfByte := by
  by_cases hk : k < B.length
  · rw [readByte_of_lt hk, readByte_of_lt (hlen ▸ hk), Option.map_some, Option.map_some,
      Option.some_inj, ← BitVec.toNat_inj, flagsOfByte_toNat, flagsOfByte_toNat, h]
  · simp [readByte, hk, hlen ▸ hk]

/-- The fields of buffers that agree on the addresses, the first twelve bytes from `t`, the six flags and the
payload are the same. -/
theorem parseFields_congr {B C : Bytes} {t : Nat} {doff : BitVec 4} (hlen : B.length = C.length)
    (haddr : ∀ k, 12 ≤ k → k < 20 → B[k]? = C[k]?) (htcp : ∀ k, t ≤ k → k < t + 12 → B[k]? = C[k]?)
    (hflags : (B.getD (t + 13) 0).toNat % 64 = (C.getD (t + 13) 0).toNat % 64)
    (hpayload : ∀ k, t + doff.toNat * 4 ≤ k → B[k]? = C[k]?) :
    parseFields B t doff = parseFields C t doff := by
  have hsrc := readAddr_congr fun k (_ : 12 ≤ k) _ => haddr k (by omega) (by omega)
  have hdst := readAddr_congr fun k (_ : 16 ≤ k) _ => haddr k (by omega) (by omega)
  have hsport := read16_congr fun k (_ : t ≤ k) _ => htcp k (by omega) (by omega)
  have hdport := read16_congr fun k (_ : t + 2 ≤ k) _ => htcp k (by omega) (by omega)
  have hseq := read32_congr fun k (_ : t + 4 ≤ k) _ => htcp k (by omega) (by omega)
  have hack := read32_congr fun k (_ : t + 8 ≤ k) _ => htcp k (by omega) (by omega)
  have hdrop : B.drop (t + doff.toNat * 4) = C.drop (t + doff.toNat * 4) :=
    List.ext_getElem? fun i => by
      simpa only [List.getElem?_drop] using hpayload _ (Nat.le_add_right ..)
  refine Option.ext fun seg => ?_
  rw [parseFields_eq_some_iff, parseFields_eq_some_iff, hsrc, hdst, hsport, hdport, hseq, hack,
    flagsRead_congr hlen hflags, hdrop]

/-- Settles O18: the tests look at the length, the IHL and the data offset only, and the fields are read from
bytes on which the buffers agree. -/
theorem parseReadsNothingElse : Obligations.ParseReadsNothingElse := by
  intro raw raw' hlen hihl haddr htcp hdoff hflags hpayload
  have hihlOf : ihlOf raw = ihlOf raw' := hihl
  have hdoffOf : doffOf raw = doffOf raw' := by
    rw [doffOf, doffOf, ← hihlOf, ← BitVec.toNat_inj, highNibble_toNat, highNibble_toNat]
    exact hdoff
  have hfit : HeadersFit raw ↔ HeadersFit raw' := by
    rw [HeadersFit, HeadersFit, hihlOf, hdoffOf, hlen]
  rw [← highNibble_toNat] at hpayload
  have hfields : parseFields raw (ihlOf raw * 4) (doffOf raw) =
      parseFields raw' (ihlOf raw * 4) (doffOf raw) :=
    parseFields_congr hlen haddr htcp hflags hpayload
  refine Option.ext fun seg => ?_
  rw [tcpParse_eq_some_iff, tcpParse_eq_some_iff, hfit, hfields, hihlOf, hdoffOf]

end Sys2Proof.Machine
end

section
/-! PROOFS. The tcp_state_machine (43_tcp_state_machine.md): each event writes the registers of its rule (R131 to
R135), and the tag follows R138's table. -/

namespace Sys2Proof.Machine

open Sys2Proof.Claims

/-! ### The events (R131 to R135) -/

/-- Settles O22: within its precondition `CSM.OPEN` is its effect. -/
theorem csmOpenWritesTheConnection : Obligations.CsmOpenWritesTheConnection :=
  fun _ _ _ _ htag hph => ⟨if_pos ⟨htag, hph⟩, rfl⟩

/-- Settles O23: within its precondition `CSM.SYNACK` is its effect, whatever the segment holds. -/
theorem csmSynAckLearnsThePeersNumber : Obligations.CsmSynAckLearnsThePeersNumber :=
  fun _ _ htag => ⟨if_pos htag, rfl⟩

/-- The effect of `CSM.SEGMENT` as one update: bit 0 of the flags, FIN, decides the tag alone (R72, R133). -/
theorem csmSegment_of_established {s : State} (htag : s.tag = .established) (seg : TcpSegment) :
    csmSegment seg s = (s.withSegment seg.seq seg.payload).withTag
      (if seg.flags.getLsbD 0 then .finWait else .established) := by
  rw [csmSegment, finSet_eq]
  split
  · rfl
  · rw [← htag]
    rfl

/-- Settles O24: within its precondition `CSM.SEGMENT` is its effect, and its answer is the FIN bit. -/
theorem csmSegmentAppendsAndSeesFin : Obligations.CsmSegmentAppendsAndSeesFin := by
  intro seg s htag
  have hexec : exec (.csmSegment seg) s =
      .next ((csmSegment seg s).withAnswer (.flag (finSet seg.flags))) := if_pos htag
  rw [csmSegment_of_established htag, finSet_eq] at hexec
  exact ⟨hexec, rfl⟩

/-- Settles O25: `CSM.CLOSE` tests the tag before it writes it, `CSM.ABORT` tests nothing. -/
theorem csmCloseAndAbortWriteTheTagOnly : Obligations.CsmCloseAndAbortWriteTheTagOnly :=
  ⟨fun _ htag => if_pos htag, fun _ => rfl, rfl, rfl⟩

/-! ### The tag follows the table (R138) -/

theorem tagEdges_stay (g : Tag) : (g, g) ∈ tagEdges := by
  cases g <;> decide

/-- Every tag may fall back to `CLOSED`: a failure, `CSM.CLOSE` and `RESET` all do it along the table. -/
theorem tagEdges_closed (g : Tag) : (g, Tag.closed) ∈ tagEdges := by
  cases g <;> decide

/-- The row of `CSM.OPEN` (R131). -/
theorem tagEdges_open : (Tag.closed, Tag.synSent) ∈ tagEdges := by decide

/-- The row of `CSM.SYNACK` (R132). -/
theorem tagEdges_synAck : (Tag.synSent, Tag.established) ∈ tagEdges := by decide

/-- The row of a `CSM.SEGMENT` with FIN (R133). -/
theorem tagEdges_fin : (Tag.established, Tag.finWait) ∈ tagEdges := by decide

theorem Heard.tag {s u : State} (h : Heard s u) : u.tag = s.tag := by
  cases h; rfl

/-- In a state whose phase fixes its tag (R34) a phase step moves the tag along the table: the SYN+ACK is
accepted with tag `SYN_SENT`, the last segment with tag `ESTABLISHED`. -/
theorem PhaseStepped.mem_tagEdges {s t : State} (h : PhaseStepped s t) (hs : s.tag = s.phase.tag) :
    (s.tag, t.tag) ∈ tagEdges := by
  cases h with
  | sendFailed kind id st o hph hst ho => exact tagEdges_closed _
  | finAckSent id o hph ho => exact tagEdges_closed _
  | waits u hu hph => exact hu.tag ▸ tagEdges_stay _
  | timedOut kind u hu hph => exact tagEdges_closed _
  | synAck seg u hu hph =>
    have htag : s.tag = .synSent := hs.trans (hph ▸ rfl)
    exact htag ▸ tagEdges_synAck
  | segment seg u hu hph hfin => exact hu.tag ▸ tagEdges_stay _
  | lastSegment seg u hu hph hfin =>
    have htag : s.tag = .established := hs.trans (hph ▸ rfl)
    exact htag ▸ tagEdges_fin
  | _ => exact tagEdges_stay _

/-- Every instruction that completes moves the tag along the table; an event but
`CSM.ABORT` has the first tag of its row as its precondition (R138, R141). -/
theorem Performs.mem_tagEdges {i : Instr} {s t : State} (h : Performs i s t) (hs : s.tag = s.phase.tag) :
    (s.tag, t.tag) ∈ tagEdges := by
  cases h with
  | unit hu a => exact tagEdges_stay _
  | wire hw o calls ho => exact tagEdges_stay _
  | opened hpre =>
    obtain ⟨htag, -⟩ := hpre
    exact htag ▸ tagEdges_open
  | synAck htag => exact htag ▸ tagEdges_synAck
  | segment htag =>
    simp only [State.withAnswer_tag, State.withTag_tag]
    split
    · exact htag ▸ tagEdges_fin
    · exact tagEdges_stay _
  | started port iss o hph htag hreq ho => exact htag ▸ tagEdges_open
  | phaseStep hstep ht => exact ht.mem_tagEdges hs
  | _ => exact tagEdges_closed _

/-- Settles O53: whatever a step performs moves the tag along the table; `RESET` needs no exception, since
every tag has a row to `CLOSED`. -/
theorem tagFollowsTheTable : Obligations.TagFollowsTheTable := by
  intro s t hs h
  obtain ⟨i, cs, hp, -⟩ := step_next h
  exact .inl (hp.mem_tagEdges hs.phaseFixesTag)

end Sys2Proof.Machine
end

section
/-! PROOFS. The packet_orchestrator (44_packet_orchestrator.md): `START`, the phase steps and what each of them
sends, awaits and writes, the packets they build, and the phase graph with the result a run ends in. -/

namespace Sys2Proof.Machine

open Sys2Proof.Claims Sys2Proof.Safety

/-! ### `STEP` selects by phase (R162) -/

theorem exec_step_eq (s : State) : exec .step s = exec (stepOfPhase s.phase) s := by
  change execStep s = _
  unfold execStep
  cases s.phase <;> rfl

theorem exec_step_of_phase {s : State} {ph : Phase} (hph : s.phase = ph) :
    exec .step s = exec (stepOfPhase ph) s :=
  hph ▸ exec_step_eq s

/-- The step of `PH_IDLE` changes nothing (R163). -/
theorem exec_stepIdle_of_idle {s : State} (hph : s.phase = .idle) : exec .stepIdle s = .next s :=
  if_pos hph

/-- The step of `PH_DONE` changes nothing (R160). -/
theorem exec_stepDone_of_done {s : State} (hph : s.phase = .done) : exec .stepDone s = .next s :=
  if_pos hph

/-- Settles O31: `STEP` is the row of its phase, and the two resting rows only test the phase. -/
theorem stepSelectsByPhase : Obligations.StepSelectsByPhase := by
  refine ⟨fun s => ?_, fun s hph => ?_, fun s hph => ?_⟩
  · rw [exec_step_eq]
    cases s.phase <;> rfl
  · have hidle := exec_stepIdle_of_idle hph
    exact ⟨hidle, (exec_step_of_phase hph).trans hidle⟩
  · have hdone := exec_stepDone_of_done hph
    exact ⟨hdone, (exec_step_of_phase hph).trans hdone⟩

/-! ### `START` and the events' preconditions (R150, R170, R141) -/

section Start

variable {la ra : Addr} {rport : Word16} {rq : Bytes} {s : State}

theorem exec_start_of_notIdle (ready : Bool) (hph : s.phase ≠ .idle) :
    exec (.start la ra rport rq ready) s = .refused .outsidePrecondition :=
  if_pos hph

theorem exec_start_of_tooLong (ready : Bool) (hph : s.phase = .idle) (hlen : 65495 < rq.length) :
    exec (.start la ra rport rq ready) s = .refused .requestTooLong :=
  (if_neg (not_not.2 hph)).trans (if_pos hlen)

/-- The test of the channel comes before that of the tag (R190 a, assumption log 23). -/
theorem exec_start_of_noChannel (hph : s.phase = .idle) (hlen : rq.length ≤ 65495) :
    exec (.start la ra rport rq false) s = .next (raiseFail .setup s) :=
  (if_neg (not_not.2 hph)).trans ((if_neg (Nat.not_lt.2 hlen)).trans (if_pos rfl))

theorem exec_start_of_channel (hph : s.phase = .idle) (htag : s.tag = .closed)
    (hlen : rq.length ≤ 65495) :
    exec (.start la ra rport rq true) s = .next (startTransfer la ra rport rq s) :=
  (if_neg (not_not.2 hph)).trans ((if_neg (Nat.not_lt.2 hlen)).trans
    ((if_neg nofun).trans (if_neg (not_not.2 htag))))

end Start

/-- Settles O27: the setup failure of R186, before any draw. -/
theorem startWithoutChannelFails : Obligations.StartWithoutChannelFails :=
  fun _ _ _ _ _ => exec_start_of_noChannel

/-- Settles O28: each event and `START` test their precondition before anything else. -/
theorem outsideItsPreconditionRefused : Obligations.OutsideItsPreconditionRefused :=
  ⟨fun _ _ _ _ h => if_neg h, fun _ _ h => if_neg h, fun _ _ h => if_neg h, fun _ h => if_neg h,
    fun _ _ _ _ ready _ => exec_start_of_notIdle ready,
    fun _ _ _ _ ready _ => exec_start_of_tooLong ready⟩

/-- `START` draws the port and then `S` (R151), and beside the outside writes its own registers and those of
`CSM.OPEN` (R150, R131). -/
theorem startTransfer_eq (la ra : Addr) (rport : Word16) (rq : Bytes) (s : State) :
    startTransfer la ra rport rq s =
      (((((s.withTransfer la ra rq).withOutside
        (draw32 (draw16 (s.withTransfer la ra rq)).2).2.outside).withOpened
          (draw16 (s.withTransfer la ra rq)).1
          (draw32 (draw16 (s.withTransfer la ra rq)).2).1 rport).withTag
        .synSent).withPhase .sendSyn) := by
  have hframe := (draw32_frame _).trans
    (congrArg (State.withOutside · _) (draw16_frame (s.withTransfer la ra rq)))
  unfold startTransfer csmOpen
  dsimp only
  rw [hframe]
  rfl

/-- Settles O26: what `START` writes, and the scripts of the two draws, one after the other. -/
theorem startOpensTheConnection : Obligations.StartOpensTheConnection := by
  intro la ra rport rq s hph htag hlen
  have hexec := exec_start_of_channel (la := la) (ra := ra) (rport := rport) hph htag hlen
  rw [startTransfer_eq] at hexec
  refine ⟨(draw16 _).1, (draw32 _).1, (draw32 _).2.outside, hexec, by simp, fun v vs hv => ?_,
    fun v vs hv => ?_, by simp⟩
  · rw [draw32_draws16]
    exact draw16_of_script hv
  · exact draw32_of_script ((draw16_draws32 _).trans hv)

/-! ### The sending steps (R154, R156, R157, R159) -/

theorem sentOne_outsideAfterSend (kind : DescKind) (s : State) :
    SentOne s (descOf kind s) (draw16 s).1 (statusOfSend kind s) (outsideAfterSend kind s) [] where
  calls := (follows_outsideAfterSend kind s).trace.trans (List.append_nil _).symm
  drawn := fun _ _ hv => ⟨(draw16_of_script hv).1, (send_draws16 ..).trans (draw16_of_script hv).2⟩
  status := fun _ _ hv => send_of_script ((draw16_statuses s).trans hv)
  others := by simp [outsideAfterSend, pkt]

theorem sameTime_outsideAfterSend (kind : DescKind) (s : State) :
    sameTime s (outsideAfterSend kind s) := by
  simp [sameTime, outsideAfterSend, pkt]

/-- The clock read after a `send` (R154). -/
theorem sentOne_afterNow {s : State} {d : Desc} {id : Word16} {st : Nat} {o : Outside}
    (h : SentOne s d id st o []) :
    SentOne s d id st (now (s.withOutside o)).2.outside [.now (now (s.withOutside o)).1] where
  calls := by simp [h.calls]
  drawn := by simpa using h.drawn
  status := by simpa using h.status
  others := by simpa using h.others

/-- A sending step in its phase goes on with `onOk` when the status is ok, and fails otherwise (R198). -/
theorem sendingStep_eq {ph : Phase} {s : State} (hph : s.phase = ph) (htag : s.tag = ph.tag)
    (kind : DescKind) (onOk : State → State) :
    (if atPhase ph s then .next (sendPacket kind onOk s) else .refused .outsidePrecondition :
      Host.Outcome State Fault Refusal) =
      .next (if statusOfSend kind s = 0 then onOk (s.withOutside (outsideAfterSend kind s))
        else failed s .failTransmission (outsideAfterSend kind s)) :=
  (if_pos ((atPhase_iff ph s).2 ⟨hph, htag⟩)).trans (congrArg _ (sendPacket_eq kind onOk s))

/-- Settles O34: `DESC(ACK)` reads `local_seq` and `remote_seq + 1`. -/
theorem sendAckStepSendsTheAck : Obligations.SendAckStepSendsTheAck :=
  fun s hph htag => ⟨_, _, _, sendingStep_eq hph htag .ack _, sentOne_outsideAfterSend .ack s,
    sameTime_outsideAfterSend .ack s⟩

/-- In `PH_SEND_REQ` the bound on the request is tested next (R112). -/
theorem runSendReq_of_atPhase {s : State} (hph : s.phase = .sendReq) (htag : s.tag = .established) :
    runSendReq s =
      if s.req.length ≤ Config.reqMax then .next (sendPacket .req (fun t => t.withPhase .recv) s)
      else .refused .operandOutOfRange :=
  if_pos ((atPhase_iff _ s).2 ⟨hph, htag⟩)

/-- Settles O35: within the bound the step is a sending step of `DESC(REQ)`. -/
theorem sendReqStepSendsTheRequest : Obligations.SendReqStepSendsTheRequest := by
  refine ⟨fun s hph htag hlen => ⟨_, _, _, ?_, sentOne_outsideAfterSend .req s,
    sameTime_outsideAfterSend .req s⟩, fun s hph htag hlen => ?_⟩
  · have hfits : s.req.length ≤ Config.reqMax := hlen
    change runSendReq s = _
    rw [runSendReq_of_atPhase hph htag, if_pos hfits, sendPacket_eq]
    rfl
  · have hlong : ¬ s.req.length ≤ Config.reqMax := Nat.not_le.2 hlen
    exact (runSendReq_of_atPhase hph htag).trans (if_neg hlong)

/-- Settles O36: the flags are those of `DESC(ACK)`, and neither outcome writes `resp`. -/
theorem sendFinAckStepEndsTheTransfer : Obligations.SendFinAckStepEndsTheTransfer :=
  fun s hph htag => ⟨_, _, _, sendingStep_eq hph htag .ack afterFinAck,
    sentOne_outsideAfterSend .ack s, sameTime_outsideAfterSend .ack s⟩

/-- The time read once the SYN is sent is written to both registers (R154). -/
theorem afterSyn_eq (s : State) :
    afterSyn s = ((((s.withOutside (now s).2.outside).withLastActivity (now s).1).withSynTime
      (now s).1).withPhase .waitSynAck) := by
  rw [← now_frame]
  rfl

/-- Settles O33: the two outcomes of `send`, with the clock read after an ok one only. -/
theorem sendSynStepSendsTheSyn : Obligations.SendSynStepSendsTheSyn := by
  intro s hph htag
  have hexec : exec .stepSendSyn s = _ := sendingStep_eq hph htag .syn afterSyn
  have hsent := sentOne_outsideAfterSend .syn s
  obtain ⟨hticks, hclock⟩ := sameTime_outsideAfterSend .syn s
  have hstatus := fun v vs hv => (hsent.status v vs hv).1
  by_cases hst : statusOfSend .syn s = 0
  · rw [if_pos hst, afterSyn_eq] at hexec
    generalize outsideAfterSend .syn s = o at *
    refine ⟨(draw16 s).1, statusOfSend .syn s, (now (s.withOutside o)).1,
      (now (s.withOutside o)).2.outside, fun _ => ⟨hexec, ?_, ?_, now_clock _, fun d ds hd => ?_⟩,
      fun hne => absurd hst hne, hstatus⟩
    · exact sentOne_afterNow hsent
    · exact hclock.symm.trans_le (clock_le_now (s.withOutside o))
    · exact hclock ▸ now_of_script (hticks.trans hd)
  · rw [if_neg hst] at hexec
    exact ⟨_, _, 0, _, fun h => absurd h hst, fun _ => ⟨hexec, hsent, hticks, hclock⟩, hstatus⟩

/-! ### The waiting steps (R155, R158) -/

/-- A waiting step that has received `p` and read the clock `d` ticks later. -/
def heardState (s : State) (p : Bytes) (ps : List Bytes) (d : Nat) (ds : List Nat) : State :=
  (s.withReceived p).withOutside (polled s p ps d ds)

/-- The same once the time read is written to `last_activity`, as a packet has it (R155, R158). -/
def heardPacket (s : State) (p : Bytes) (ps : List Bytes) (d : Nat) (ds : List Nat) : State :=
  (heardState s p ps d ds).withLastActivity (s.outside.clock + d)

section Waiting

variable {s : State} {ph : Phase} {p : Bytes} {ps : List Bytes} {d : Nat} {ds : List Nat}

/-- What is parsed is what was delivered (R199, R117). -/
theorem tcpParse_received_heardPacket (hwf : Memory.wf s.rxbuf) :
    tcpParse (heardPacket s p ps d ds).received = tcpParse p :=
  congrArg tcpParse (Memory.readBytes_writeBytes hwf p)

theorem receive_of_script (hp : s.outside.packets = p :: ps) (hlen : p.length ≤ 65535) :
    receive s = .ok (((s.withOutside { s.outside with packets := ps }).withReceived p).record
      (.receive p)) := by
  unfold receive
  rw [hp]
  exact if_pos hlen

theorem now_after_receive (hd : s.outside.ticks = d :: ds) :
    now (((s.withOutside { s.outside with packets := ps }).withReceived p).record (.receive p)) =
      (s.outside.clock + d, heardState s p ps d ds) := by
  simp [now, hd, heardState, polled, State.record, State.withOutside, State.withReceived]

/-- A waiting step in its phase receives what the channel delivers (R155, R158). -/
theorem waitingStep_eq (h : Delivers s ph p ps d ds) (hlen : p.length ≤ 65535)
    (rest : State → State) :
    (if atPhase ph s then receiveThen rest s else .refused .outsidePrecondition) =
      .next (rest (((s.withOutside { s.outside with packets := ps }).withReceived p).record
        (.receive p))) := by
  rw [if_pos ((atPhase_iff ph s).2 ⟨h.inPhase, h.withTag⟩), receiveThen,
    receive_of_script h.next hlen]

/-- `STEP.WAIT_SYNACK` on no-data (R155). -/
theorem exec_stepWaitSynAck_noData (h : Delivers s .waitSynAck [] ps d ds) :
    exec .stepWaitSynAck s =
      .next (if idleExpired (s.outside.clock + d) (heardState s [] ps d ds) ||
          handshakeExpired (s.outside.clock + d) (heardState s [] ps d ds)
        then raiseFail .handshake (heardState s [] ps d ds) else heardState s [] ps d ds) := by
  refine (waitingStep_eq h (Nat.zero_le _) pollInWait).trans (congrArg _ ?_)
  rw [pollInWait, now_after_receive h.tick]
  exact if_pos rfl

/-- `STEP.WAIT_SYNACK` on a packet (R155). -/
theorem exec_stepWaitSynAck_packet (h : Delivers s .waitSynAck p ps d ds) (hpos : 0 < p.length)
    (hlen : p.length ≤ 65535) :
    exec .stepWaitSynAck s =
      .next (deliverInWait (s.outside.clock + d) (heardPacket s p ps d ds)) := by
  refine (waitingStep_eq h hlen pollInWait).trans (congrArg _ ?_)
  rw [pollInWait, now_after_receive h.tick]
  exact if_neg hpos.ne'

/-- `STEP.RECV` on no-data (R158). -/
theorem exec_stepRecv_noData (h : Delivers s .recv [] ps d ds) :
    exec .stepRecv s =
      .next (if idleExpired (s.outside.clock + d) (heardState s [] ps d ds)
        then raiseFail .idleTimeout (heardState s [] ps d ds) else heardState s [] ps d ds) := by
  refine (waitingStep_eq h (Nat.zero_le _) pollInRecv).trans (congrArg _ ?_)
  rw [pollInRecv, now_after_receive h.tick]
  exact if_pos rfl

/-- `STEP.RECV` on a packet (R158). -/
theorem exec_stepRecv_packet (h : Delivers s .recv p ps d ds) (hpos : 0 < p.length)
    (hlen : p.length ≤ 65535) :
    exec .stepRecv s = .next (deliverInRecv (heardPacket s p ps d ds)) := by
  refine (waitingStep_eq h hlen pollInRecv).trans (congrArg _ ?_)
  rw [pollInRecv, now_after_receive h.tick]
  exact if_neg hpos.ne'

/-- `MATCH` in `PH_WAIT_SYNACK` (R153). -/
theorem matchSeg_heardPacket_iff_acceptedInWait (h : Delivers s .waitSynAck p ps d ds)
    (seg : TcpSegment) : matchSeg seg (heardPacket s p ps d ds) = true ↔ acceptedInWait s seg := by
  have hph : (heardPacket s p ps d ds).phase = .waitSynAck := h.inPhase
  simp only [matchSeg, hph, Bool.and_eq_true, peerMatch_iff, synAckSet_eq, beq_iff_eq, and_assoc]
  rfl

/-- `MATCH` in `PH_RECV` (R153). -/
theorem matchSeg_heardPacket_iff_fromPeer (h : Delivers s .recv p ps d ds) (seg : TcpSegment) :
    matchSeg seg (heardPacket s p ps d ds) = true ↔ fromPeer s seg := by
  have hph : (heardPacket s p ps d ds).phase = .recv := h.inPhase
  simp only [matchSeg, hph, peerMatch_iff]
  rfl

end Waiting

/-- What parses is not no-data: it has the 40 bytes of R117. -/
theorem length_pos_of_tcpParse {raw : Bytes} {seg : TcpSegment} (h : tcpParse raw = some seg) :
    0 < raw.length := by
  obtain ⟨⟨hlen, -⟩, -⟩ := tcpParse_eq_some_iff.1 h
  omega

/-- A packet that does not parse or does not match is discarded in `PH_WAIT_SYNACK` (R155, R181). -/
theorem deliverInWait_of_noMatch {t : Nat} {s : State}
    (h : ∀ seg, tcpParse s.received = some seg → matchSeg seg s ≠ true) :
    deliverInWait t s = discardInWait t s := by
  cases hp : tcpParse s.received with
  | none => exact deliverInWait_none hp
  | some seg => rw [deliverInWait_some hp, if_neg (h seg hp)]

/-- A packet that does not parse or does not match is skipped in `PH_RECV` (R158, R181). -/
theorem deliverInRecv_of_noMatch {s : State}
    (h : ∀ seg, tcpParse s.received = some seg → matchSeg seg s ≠ true) : deliverInRecv s = s := by
  cases hp : tcpParse s.received with
  | none => exact deliverInRecv_none hp
  | some seg => rw [deliverInRecv_some hp, if_neg (h seg hp)]

/-- Settles O37: the two tests of the step are the two timers, each strict. -/
theorem waitOnNoDataLooksAtTheTimers : Obligations.WaitOnNoDataLooksAtTheTimers := by
  intro s ps d ds h
  have hexec := exec_stepWaitSynAck_noData h
  have htimers : (idleExpired (s.outside.clock + d) (heardState s [] ps d ds) ||
      handshakeExpired (s.outside.clock + d) (heardState s [] ps d ds)) = true ↔
      idlePassed s (s.outside.clock + d) ∨ deadlinePassed s (s.outside.clock + d) := by
    rw [Bool.or_eq_true, idleExpired_iff, handshakeExpired_iff]
    rfl
  exact ⟨fun ht => hexec.trans (congrArg _ (if_pos (htimers.2 ht))),
    fun ht => hexec.trans (congrArg _ (if_neg (mt htimers.1 ht)))⟩

/-- Settles O38: `MATCH` is tested before the deadline is looked at. -/
theorem waitAcceptsTheMatchingSynAck : Obligations.WaitAcceptsTheMatchingSynAck := by
  intro s p ps d ds seg h hwf hlen hparse hacc
  have hmatch := (matchSeg_heardPacket_iff_acceptedInWait h seg).2 hacc
  refine (exec_stepWaitSynAck_packet h (length_pos_of_tcpParse hparse) hlen).trans (congrArg _ ?_)
  rw [deliverInWait_some ((tcpParse_received_heardPacket hwf).trans hparse), if_pos hmatch]
  rfl

/-- Settles O39: the packet is discarded, and of the two timers only the deadline is tested. -/
theorem waitDiscardsEverythingElse : Obligations.WaitDiscardsEverythingElse := by
  intro s p ps d ds h hwf hpos hlen hno
  have hdiscard : deliverInWait (s.outside.clock + d) (heardPacket s p ps d ds) =
      discardInWait (s.outside.clock + d) (heardPacket s p ps d ds) :=
    deliverInWait_of_noMatch fun seg hp =>
      mt (matchSeg_heardPacket_iff_acceptedInWait h seg).1 (hno seg ((tcpParse_received_heardPacket hwf).symm.trans hp))
  have hexec := (exec_stepWaitSynAck_packet h hpos hlen).trans (congrArg _ hdiscard)
  have hdeadline : handshakeExpired (s.outside.clock + d) (heardPacket s p ps d ds) = true ↔
      deadlinePassed s (s.outside.clock + d) := handshakeExpired_iff _ _
  exact ⟨fun ht => hexec.trans (congrArg _ (if_neg (mt hdeadline.1 ht))),
    fun ht => hexec.trans (congrArg _ (if_pos (hdeadline.2 ht)))⟩

/-- Settles O40: the one test of the step is the watchdog. -/
theorem recvOnNoDataLooksAtTheWatchdog : Obligations.RecvOnNoDataLooksAtTheWatchdog := by
  intro s ps d ds h
  have hexec := exec_stepRecv_noData h
  have hwatchdog : idleExpired (s.outside.clock + d) (heardState s [] ps d ds) = true ↔
      idlePassed s (s.outside.clock + d) := idleExpired_iff _ _
  exact ⟨fun ht => hexec.trans (congrArg _ (if_pos (hwatchdog.2 ht))),
    fun ht => hexec.trans (congrArg _ (if_neg (mt hwatchdog.1 ht)))⟩

/-- Settles O41: the segment is appended whatever its numbers are, and FIN alone decides tag and phase. -/
theorem recvAcceptsThePeersSegment : Obligations.RecvAcceptsThePeersSegment := by
  intro s p ps d ds seg h hwf hlen hparse hpeer
  have hmatch := (matchSeg_heardPacket_iff_fromPeer h seg).2 hpeer
  have htag : (heardPacket s p ps d ds).tag = .established := h.withTag
  refine (exec_stepRecv_packet h (length_pos_of_tcpParse hparse) hlen).trans (congrArg _ ?_)
  rw [deliverInRecv_some ((tcpParse_received_heardPacket hwf).trans hparse), if_pos hmatch,
    csmSegment_of_established htag, finSet_eq]
  cases seg.flags.getLsbD 0 with
  | true => rfl
  | false => rw [← h.inPhase]; rfl

/-- Settles O42: the packet is skipped once `last_activity` is written. -/
theorem recvSkipsEverythingElse : Obligations.RecvSkipsEverythingElse := by
  intro s p ps d ds h hwf hpos hlen hno
  have hskip : deliverInRecv (heardPacket s p ps d ds) = heardPacket s p ps d ds :=
    deliverInRecv_of_noMatch fun seg hp =>
      mt (matchSeg_heardPacket_iff_fromPeer h seg).1 (hno seg ((tcpParse_received_heardPacket hwf).symm.trans hp))
  exact (exec_stepRecv_packet h hpos hlen).trans (congrArg _ hskip)

/-! ### The packets (R152, R69, R54) -/

/-- `PKT` builds the header for the length of the segment it has built (R152). -/
theorem packetOf_eq (d : Desc) (id : Word16) (s : State) :
    packetOf d id s =
      iphFin (iphBuild s.localAddr s.remoteAddr (20 + d.payload.length) id) ++
        tcpFin (tcpBuild s.localPort s.remotePort d.seq d.ack d.flags d.payload)
          s.localAddr s.remoteAddr := by
  unfold packetOf
  simp only [length_tcpFin, length_tcpBuild]

theorem take_finalized (src dst : Addr) (n : Nat) (id : Word16) (G : Bytes) :
    (iphFin (iphBuild src dst n id) ++ G).take 20 = iphFin (iphBuild src dst n id) :=
  List.take_left' (length_iphFin _)

theorem drop_finalized (src dst : Addr) (n : Nat) (id : Word16) (G : Bytes) :
    (iphFin (iphBuild src dst n id) ++ G).drop 20 = G :=
  List.drop_left' (length_iphFin _)

/-- Settles O47: each half of the packet verifies by itself, and the parse gives the descriptor back. -/
theorem packetsAreFinalAndParseBack : Obligations.PacketsAreFinalAndParseBack := by
  intro d id s _
  refine ⟨packetOf_eq d id s, ?_, read16_packetOf d id s, ?_, ?_, tcpParse_packetOf d id s⟩
  · rw [packetOf_eq, length_finalized]
  · rw [packetOf_eq, take_finalized]
    exact csum_checksummed (k := 10) rfl (by rw [length_iphBuild]; decide)
  · have hlen := length_tcpBuild s.localPort s.remotePort d.seq d.ack d.flags d.payload
    rw [packetOf_eq, drop_finalized, ← hlen]
    exact csum_pseudoHeader_tcpFin (by omega) _ _

/-! ### A `STEP` of a run completes (R162) -/

section Completes

variable {s : State} (hs : BlockInv s)
include hs

theorem atPhase_of_blockInv {ph : Phase} (hph : s.phase = ph) : atPhase ph s = true :=
  (atPhase_iff ph s).2 ⟨hph, hs.phaseFixesTag.trans (congrArg Phase.tag hph)⟩

/-- The channel keeps its duty (R202), so a waiting step gets its delivery. -/
theorem exists_receiveThen_next (rest : State → State) : ∃ t, receiveThen rest s = .next t := by
  unfold receiveThen
  cases hr : receive s with
  | ok s' => exact ⟨_, rfl⟩
  | error f =>
    obtain ⟨-, p, ps, hp, hlong⟩ := receive_error hr
    exact absurd (hs.channelDuty p (by simp [hp])) (Nat.not_le.2 hlong)

end Completes

/-- Settles O51: in each phase the invariant gives the tag that the step tests, the request's bound and the
channel's duty. -/
theorem stepAlwaysCompletes : Obligations.StepAlwaysCompletes := by
  intro s hs
  rw [exec_step_eq]
  cases hph : s.phase with
  | idle => exact ⟨s, exec_stepIdle_of_idle hph⟩
  | sendSyn => exact ⟨_, if_pos (atPhase_of_blockInv hs hph)⟩
  | waitSynAck =>
    obtain ⟨t, ht⟩ := exists_receiveThen_next hs pollInWait
    exact ⟨t, (if_pos (atPhase_of_blockInv hs hph)).trans ht⟩
  | sendAck => exact ⟨_, if_pos (atPhase_of_blockInv hs hph)⟩
  | sendReq => exact ⟨_, (if_pos (atPhase_of_blockInv hs hph)).trans (if_pos hs.requestFits)⟩
  | recv =>
    obtain ⟨t, ht⟩ := exists_receiveThen_next hs pollInRecv
    exact ⟨t, (if_pos (atPhase_of_blockInv hs hph)).trans ht⟩
  | sendFinAck => exact ⟨_, if_pos (atPhase_of_blockInv hs hph)⟩
  | done => exact ⟨s, exec_stepDone_of_done hph⟩

/-! ### The phase graph (R161) -/

/-- Every phase has an edge to `PH_DONE`, or its self-loop. -/
theorem phaseEdges_done (ph : Phase) : (ph, Phase.done) ∈ phaseEdges := by
  cases ph <;> decide

/-- A waiting phase has its self-loop. -/
theorem phaseEdges_of_waits {ph ph' : Phase} (h : ph = .waitSynAck ∨ ph = .recv) (hstay : ph' = ph) :
    (ph, ph') ∈ phaseEdges := by
  obtain rfl | rfl := h <;> subst hstay <;> decide

theorem phaseEdges_started : (Phase.idle, Phase.sendSyn) ∈ phaseEdges := by decide

theorem phaseEdges_synSent : (Phase.sendSyn, Phase.waitSynAck) ∈ phaseEdges := by decide

theorem phaseEdges_synAck : (Phase.waitSynAck, Phase.sendAck) ∈ phaseEdges := by decide

theorem phaseEdges_ackSent : (Phase.sendAck, Phase.sendReq) ∈ phaseEdges := by decide

theorem phaseEdges_reqSent : (Phase.sendReq, Phase.recv) ∈ phaseEdges := by decide

theorem phaseEdges_lastSegment : (Phase.recv, Phase.sendFinAck) ∈ phaseEdges := by decide

theorem PhaseStepped.mem_phaseEdges {s t : State} (h : PhaseStepped s t) :
    (s.phase, t.phase) ∈ phaseEdges := by
  cases h with
  | rest hph => obtain hph | hph := hph <;> rw [hph] <;> decide
  | sendFailed kind id st o hph hst ho => exact phaseEdges_done _
  | synSent id o hph ho => exact hph ▸ phaseEdges_synSent
  | ackSent id o hph ho => exact hph ▸ phaseEdges_ackSent
  | reqSent id o hph ho => exact hph ▸ phaseEdges_reqSent
  | finAckSent id o hph ho => exact phaseEdges_done _
  | waits u hu hph => exact phaseEdges_of_waits hph hu.phase
  | timedOut kind u hu hph => exact phaseEdges_done _
  | synAck seg u hu hph => exact hph ▸ phaseEdges_synAck
  | segment seg u hu hph hfin => exact phaseEdges_of_waits (.inr hph) hu.phase
  | lastSegment seg u hu hph hfin => exact hph ▸ phaseEdges_lastSegment

/-- Of what the caller may issue, `START` and `STEP` move the phase along an edge. -/
theorem Performs.mem_phaseEdges {i : Instr} {s t : State} (h : Performs i s t)
    (hoffered : offeredToCaller i = true) (hunit : isUnitOperation i ≠ true) (hreset : i ≠ .reset) :
    (s.phase, t.phase) ∈ phaseEdges := by
  cases h with
  | unit hu a => exact absurd hu hunit
  | setupFailed hph => exact phaseEdges_done _
  | started port iss o hph htag hreq ho => exact hph ▸ phaseEdges_started
  | phaseStep hi ht => exact ht.mem_phaseEdges
  | reset => exact absurd rfl hreset
  | wire hw => exact absurd hoffered (not_offeredToCaller_of_isWirePattern hw)
  | _ => cases hoffered

theorem phase_of_unitOperationIssued {s t : State} (hu : unitOperationIssued s)
    (h : step s = .next t) : t.phase = s.phase := by
  obtain ⟨c, cs, i, hcmds, hd, hi⟩ := hu
  rw [step_of_decoded hcmds hd] at h
  obtain ⟨ht, -⟩ := (exec_stateIndependent_of_isUnitOperation hi).answered_of_next h s
  rw [ht]
  rfl

theorem eq_resetBlock_of_resetIssued {s t : State} (hr : resetIssued s) (h : step s = .next t) :
    ∃ cs, t = resetBlock (s.withCmds cs) := by
  obtain ⟨cs, hcmds⟩ := hr
  rw [step_of_decoded (i := .reset) hcmds rfl] at h
  exact ⟨cs, (Host.Outcome.next.inj h).symm⟩

/-- A command that decodes to a unit operation is one issued, so without it the step performs `START`,
`STEP` or `RESET` (R80). -/
theorem step_next_of_notUnit {s t : State} (hs : BlockInv s) (h : step s = .next t)
    (hu : ¬ unitOperationIssued s) :
    ∃ i cs, Performs i (s.withCmds cs) t ∧ offeredToCaller i = true ∧ isUnitOperation i ≠ true ∧
      (i = .reset → resetIssued s) := by
  obtain ⟨i, cs, hp, ⟨-, rfl, rfl⟩ | ⟨⟨pl, bs⟩, hcmds, hd⟩⟩ := step_next h
  · exact ⟨.step, [], hp, rfl, nofun, nofun⟩
  · obtain rfl : pl = .caller := hs.callerDuty ⟨pl, bs⟩ (by simp [hcmds])
    obtain ⟨hoffered, hreset⟩ := offeredToCaller_of_decode hd
    exact ⟨i, cs, hp, hoffered, fun hi => hu ⟨_, cs, i, hcmds, hd, hi⟩,
      fun hi => ⟨cs, hreset hi ▸ hcmds⟩⟩

/-- Settles O52: the three kinds of operation the caller may issue. -/
theorem phaseFollowsTheGraph : Obligations.PhaseFollowsTheGraph := by
  intro s t hs h
  refine ⟨fun hu => phase_of_unitOperationIssued hu h, fun hr => ?_, fun hu hr => ?_⟩
  · obtain ⟨cs, rfl⟩ := eq_resetBlock_of_resetIssued hr h
    rfl
  · obtain ⟨i, cs, hp, hoffered, hunit, hreset⟩ := step_next_of_notUnit hs h hu
    exact hp.mem_phaseEdges hoffered hunit (mt hreset hr)

/-! ### How a run ends (R164, R180, R198) -/

/-- The phase of `s` and the last call made by `t` fit the result of `t`. -/
def ResultFits (s t : State) : Prop :=
  (s.phase = .idle ∧ t.result = .failSetup) ∨
  (s.phase = .waitSynAck ∧ t.result = .failHandshake) ∨
  (s.phase = .recv ∧ t.result = .failIdleTimeout) ∨
  (s.phase ∈ [Phase.sendSyn, .sendAck, .sendReq, .sendFinAck] ∧ t.result = .failTransmission ∧
    ∃ id K st, st ≠ 0 ∧
      t.outside.trace = s.outside.trace ++ [.draw16 id, .send s.remoteAddr K st]) ∨
  (s.phase = .sendFinAck ∧ t.result = .success ∧
    ∃ id K, t.outside.trace = s.outside.trace ++ [.draw16 id, .send s.remoteAddr K 0])

/-- A phase step that enters `PH_DONE` failed in a sending step, ran out of time, or sent the final ACK. -/
theorem PhaseStepped.resultFits {s t : State} (h : PhaseStepped s t) (hs : s.phase ≠ .done)
    (ht : t.phase = .done) : ResultFits s t := by
  cases h with
  | rest hph => exact absurd ht hs
  | sendFailed kind id st o hph hst ho =>
    exact .inr (.inr (.inr (.inl ⟨hph, rfl, id, _, st, hst, ho.trace⟩)))
  | finAckSent id o hph ho => exact .inr (.inr (.inr (.inr ⟨hph, rfl, id, _, ho.trace⟩)))
  | waits u hu hph => exact absurd (hu.phase.symm.trans ht) hs
  | timedOut kind u hu hph =>
    obtain ⟨hph, rfl⟩ | ⟨hph, rfl⟩ := hph
    · exact .inr (.inl ⟨hph, rfl⟩)
    · exact .inr (.inr (.inl ⟨hph, rfl⟩))
  | segment seg u hu hph hfin => exact absurd (hu.phase.symm.trans ht) hs
  | _ => cases ht

/-- What the caller may issue enters `PH_DONE` by a failed `START` or by a phase step. -/
theorem Performs.resultFits {i : Instr} {s t : State} (h : Performs i s t)
    (hoffered : offeredToCaller i = true) (hs : s.phase ≠ .done) (ht : t.phase = .done) :
    ResultFits s t := by
  cases h with
  | unit hu a => exact absurd ht hs
  | setupFailed hph => exact .inl ⟨hph, rfl⟩
  | phaseStep hi hstep => exact hstep.resultFits hs ht
  | wire hw => exact absurd hoffered (not_offeredToCaller_of_isWirePattern hw)
  | started => cases ht
  | reset => cases ht
  | _ => cases hoffered

/-- Settles O58: taking the command leaves phase, address and trace alone, and what is performed fits. -/
theorem resultSaysHowTheRunEnded : Obligations.ResultSaysHowTheRunEnded := by
  intro s t hs h hph ht
  obtain ⟨i, cs, -, hp, hoffered, -⟩ := step_next_of_blockInv hs h
  exact hp.resultFits hoffered hph ht

end Sys2Proof.Machine
end

section
/-! PROOFS. Exceptions and the collaborators (60_exceptions.md): what a failure writes, when a run can fault,
what is handed to `send`, and the end of the handshake wait. -/

namespace Sys2Proof.Machine

open Sys2Proof.Claims Sys2Proof.Safety

/-! ### The failure entry (R186, R180) -/

theorem raiseFail_eq_failed (kind : FailKind) (s : State) :
    raiseFail kind s = failed s kind.result s.outside := rfl

/-- Settles O29: the failure entry, for each of R180's kinds. -/
theorem failureEntryWritesThreeRegisters : Obligations.FailureEntryWritesThreeRegisters :=
  fun s => ⟨raiseFail_eq_failed .setup s, raiseFail_eq_failed .handshake s,
    raiseFail_eq_failed .transmission s, raiseFail_eq_failed .idleTimeout s⟩

/-! ### No run faults (R46, R202) -/

theorem StateIndependent.ne_fault {f : State → Host.Outcome State Fault Refusal}
    (hf : StateIndependent f) (s : State) (r : Fault) : f s ≠ .fault r := by
  obtain ⟨a, ha⟩ | ⟨r', hr⟩ := hf
  · rw [ha]
    nofun
  · rw [hr]
    nofun

/-- `START` completes or is refused (R150, R170). -/
theorem execStart_ne_fault (la ra : Addr) (rport : Word16) (rq : Bytes) (ready : Bool) (s : State)
    (f : Fault) : execStart la ra rport rq ready s ≠ .fault f := by
  unfold execStart
  split_ifs <;> nofun

/-- Of what the caller may issue only `STEP` calls the channel, whose duty the invariant carries (R202). -/
theorem exec_ne_fault_of_offeredToCaller {i : Instr} {s : State} (hs : BlockInv s)
    (hi : offeredToCaller i = true) (f : Fault) : exec i s ≠ .fault f := by
  by_cases hu : isUnitOperation i = true
  · exact (exec_stateIndependent_of_isUnitOperation hu).ne_fault s f
  cases i with
  | start la ra rport rq ready => exact execStart_ne_fault la ra rport rq ready s f
  | step =>
    obtain ⟨t, ht⟩ := stepAlwaysCompletes s hs
    rw [ht]
    nofun
  | reset => nofun
  | _ => exact absurd hi hu

theorem step_ne_fault {s : State} (hs : BlockInv s) (f : Fault) : step s ≠ .fault f := by
  cases hcmds : s.outside.cmds with
  | nil =>
    rw [step_of_noCommand hcmds]
    exact exec_ne_fault_of_offeredToCaller hs rfl f
  | cons c cs =>
    cases hd : decode c.place c.bytes with
    | ok i =>
      have hcaller : c.place = .caller := hs.callerDuty c (hcmds ▸ List.mem_cons_self)
      obtain ⟨hi, -⟩ := offeredToCaller_of_decode (hcaller ▸ hd)
      have hs' : BlockInv (s.withCmds cs) :=
        hs.withCmds fun c' hc' => hcmds ▸ List.mem_cons_of_mem _ hc'
      rw [step_of_decoded hcmds hd]
      exact exec_ne_fault_of_offeredToCaller hs' hi f
    | error e =>
      rw [step_of_undecodable hcmds hd]
      nofun

/-- A run faults nowhere when each of its states meets a predicate that every step keeps and under which no
step faults. -/
theorem run_ne_fault {M : Host.Core} {I : M.State → Prop} (hsafe : ∀ s r, I s → M.step s ≠ .fault r)
    (hkept : ∀ s t, I s → M.step s = .next t → I t) (n : Nat) {s : M.State} (hs : I s) (r : M.Fault) :
    M.run n s ≠ .fault r := by
  induction n generalizing s with
  | zero => nofun
  | succ n ih =>
    rw [Host.Core.run]
    cases h : M.step s with
    | next t => exact ih (hkept s t hs h)
    | fault r' => exact absurd h (hsafe s r' hs)
    | refused r' => nofun

/-- Settles O50: the invariant is such a predicate. -/
theorem invariantRunsNeverFault : Obligations.InvariantRunsNeverFault :=
  fun _ hs n f => run_ne_fault (M := core) (fun _ r hs' => step_ne_fault hs' r)
    everyStepKeepsTheInvariant n hs f

/-! ### What is sent (R198, R54, R71) -/

/-- From `s` to `t` the trace grows by calls of which every `send` hands to the peer a packet of `DESC` in
`s` (R136, R152). -/
def SendsOwnPackets (s t : State) : Prop :=
  ∃ calls, t.outside.trace = s.outside.trace ++ calls ∧
    ∀ a K st, Call.send a K st ∈ calls →
      a = s.remoteAddr ∧ ∃ kind id, K = packetOf (descOf kind s) id s

theorem sendsOwnPackets_of_noSend {s t : State} {calls : List Call}
    (h : t.outside.trace = s.outside.trace ++ calls) (hno : ∀ a K st, Call.send a K st ∉ calls) :
    SendsOwnPackets s t :=
  ⟨calls, h, fun a K st hmem => absurd hmem (hno a K st)⟩

theorem sendsOwnPackets_of_trace_eq {s t : State} (h : t.outside.trace = s.outside.trace) :
    SendsOwnPackets s t :=
  sendsOwnPackets_of_noSend (calls := []) (by simp [h]) (by simp)

/-- The calls of a sending step, and what the step may call after them. -/
theorem sendsOwnPackets_of_sendCalls {s t : State} {kind : DescKind} {id : Word16} {st : Nat}
    {more : List Call} (h : t.outside.trace = s.outside.trace ++ (sendCalls kind s id st ++ more))
    (hno : ∀ a K st, Call.send a K st ∉ more) : SendsOwnPackets s t := by
  refine ⟨_, h, fun a K st' hmem => ?_⟩
  obtain ⟨rfl, rfl, rfl⟩ :
      a = s.remoteAddr ∧ K = packetOf (descOf kind s) id s ∧ st' = st := by
    simpa [sendCalls, hno] using hmem
  exact ⟨rfl, kind, id, rfl⟩

/-- A waiting step sends nothing (R155, R158). -/
theorem Heard.sendsOwnPackets {s u : State} (h : Heard s u) : SendsOwnPackets s u := by
  obtain ⟨p, o, n, -, -, ho, -⟩ := h
  exact sendsOwnPackets_of_noSend ho.trace (by simp)

theorem PhaseStepped.sendsOwnPackets {s t : State} (h : PhaseStepped s t) : SendsOwnPackets s t := by
  cases h with
  | rest hph => exact sendsOwnPackets_of_trace_eq rfl
  | sendFailed kind id st o hph hst ho => exact sendsOwnPackets_of_sendCalls (more := []) ho.trace nofun
  | synSent id o hph ho => exact sendsOwnPackets_of_sendCalls ho.trace (by simp)
  | ackSent id o hph ho => exact sendsOwnPackets_of_sendCalls (more := []) ho.trace nofun
  | reqSent id o hph ho => exact sendsOwnPackets_of_sendCalls (more := []) ho.trace nofun
  | finAckSent id o hph ho => exact sendsOwnPackets_of_sendCalls (more := []) ho.trace nofun
  | waits u hu => exact hu.sendsOwnPackets
  | timedOut kind u hu => exact hu.sendsOwnPackets
  | synAck seg u hu => exact hu.sendsOwnPackets
  | segment seg u hu => exact hu.sendsOwnPackets
  | lastSegment seg u hu => exact hu.sendsOwnPackets

/-- What the caller may issue sends in a phase step only (R140). -/
theorem Performs.sendsOwnPackets {i : Instr} {s t : State} (h : Performs i s t)
    (hi : offeredToCaller i = true) : SendsOwnPackets s t := by
  cases h with
  | started port iss o hph htag hreq ho => exact sendsOwnPackets_of_noSend ho.trace (by simp)
  | phaseStep hstep ht => exact ht.sendsOwnPackets
  | wire hw => exact absurd hi (not_offeredToCaller_of_isWirePattern hw)
  | _ => exact sendsOwnPackets_of_trace_eq rfl

/-- The flag byte stands at offset 13 of the segment (R64). -/
theorem flagByte_packetOf (d : Desc) (id : Word16) (s : State) :
    (packetOf d id s)[33]? = some (flagByteOf d.flags) := rfl

/-- The three flag sets the block builds (R71). -/
theorem flagByteOf_descOf (kind : DescKind) (s : State) :
    flagByteOf (descOf kind s).flags = 0x02 ∨ flagByteOf (descOf kind s).flags = 0x10 ∨
      flagByteOf (descOf kind s).flags = 0x18 := by
  cases kind with
  | syn => exact .inl rfl
  | ack => exact .inr (.inl rfl)
  | req => exact .inr (.inr rfl)

/-- Only the request packet has a payload, and the request fits (R136, R24). -/
theorem length_payload_descOf {s : State} (hs : BlockInv s) (kind : DescKind) :
    (descOf kind s).payload.length ≤ 65495 := by
  cases kind with
  | syn => exact Nat.zero_le _
  | ack => exact Nat.zero_le _
  | req => exact hs.requestFits

/-- Settles O55: what is sent is a packet of `DESC`, and such a packet is final. -/
theorem sentPacketsAreFinal : Obligations.SentPacketsAreFinal := by
  intro s t hs h a K st hmem
  obtain ⟨i, cs, -, hp, hi, -⟩ := step_next_of_blockInv hs h
  have hown : SendsOwnPackets s t := hp.sendsOwnPackets hi
  obtain ⟨calls, htrace, hsends⟩ := hown
  rw [htrace, List.drop_left] at hmem
  obtain ⟨ha, kind, id, rfl⟩ := hsends a K st hmem
  obtain ⟨-, hlen, -, hheader, hsegment, -⟩ :=
    packetsAreFinalAndParseBack (descOf kind s) id s (length_payload_descOf hs kind)
  have hseglen : (packetOf (descOf kind s) id s).length - 20 = 20 + (descOf kind s).payload.length := by
    omega
  rw [flagByte_packetOf, hseglen]
  simp only [Option.some_inj]
  exact ⟨ha, flagByteOf_descOf kind s, hheader, hsegment⟩

/-! ### The end of the handshake wait (R194, R155) -/

theorem discardInWait_of_expired {t : Nat} {s : State} (h : handshakeExpired t s = true) :
    discardInWait t s = raiseFail .handshake s := if_pos h

/-- A packet past the deadline is accepted or ends the run (R155). -/
theorem deliverInWait_phase_ne_of_expired {t : Nat} {s : State} (h : handshakeExpired t s = true) :
    (deliverInWait t s).phase ≠ .waitSynAck := by
  cases hp : tcpParse s.received with
  | none =>
    rw [deliverInWait_none hp, discardInWait_of_expired h]
    nofun
  | some seg =>
    rw [deliverInWait_some hp, discardInWait_of_expired h]
    split <;> nofun

/-- With the clock past the deadline a pass of the first loop leaves it, on no-data and on a packet. -/
theorem pollInWait_phase_ne_of_expired {s : State} (h : handshakeExpired (now s).1 (now s).2 = true) :
    (pollInWait s).phase ≠ .waitSynAck := by
  unfold pollInWait
  dsimp only
  split
  · rw [if_pos (by rw [h, Bool.or_true])]
    nofun
  · exact deliverInWait_phase_ne_of_expired h

/-- `receive` leaves the clock and its script alone, so the time read after it is the one the script gives
(R199, R201). -/
theorem now_after_receive_ok {s s' : State} (h : receive s = .ok s') {d : Nat} {ds : List Nat}
    (hd : s.outside.ticks = d :: ds) :
    (now s').1 = s.outside.clock + d ∧ (now s').2.params = s.params ∧ (now s').2.synTime = s.synTime := by
  obtain ⟨p, o, -, rfl, -, hclock, -, -, -, hticks, -⟩ := receive_ok h
  obtain ⟨hnow, -⟩ := now_of_script (s := (s.withReceived p).withOutside o) (hticks.trans hd)
  exact ⟨hnow.trans (congrArg (· + d) hclock), now_params _, now_synTime _⟩

/-- Settles O60: the time read is past the deadline, whatever was received before it. -/
theorem handshakeWaitEndsAtTheDeadline : Obligations.HandshakeWaitEndsAtTheDeadline := by
  intro s t limit d ds _ hph hlimit hd hlate h
  rw [exec_step_of_phase hph] at h
  obtain ⟨-, hrest⟩ := next_of_guard h
  obtain ⟨s', hr, rfl⟩ := next_of_receiveThen hrest
  obtain ⟨hnow, hparams, hsyn⟩ := now_after_receive_ok hr hd
  refine pollInWait_phase_ne_of_expired ((handshakeExpired_iff _ _).2 ⟨limit, hparams ▸ hlimit, ?_⟩)
  rw [hnow, hsyn]
  omega

end Sys2Proof.Machine
end

section
/-! PROOFS. Reset (70_reset_and_hazards.md, section 1): what `RESET` writes and leaves alone, and the
invariant in the state after it. -/

namespace Sys2Proof.Machine

open Sys2Proof.Claims Sys2Proof.Safety

/-! ### The operation (R33, R210, R212) -/

theorem exec_reset (s : State) : exec .reset s = .next (resetBlock s) := rfl

theorem resetBlock_clears (s : State) :
    (resetBlock s).tag = .closed ∧ (resetBlock s).phase = .idle ∧ (resetBlock s).result = .none ∧
      (resetBlock s).resp = [] := ⟨rfl, rfl, rfl, rfl⟩

theorem resetBlock_params (s : State) : (resetBlock s).params = s.params := rfl

theorem resetBlock_outside (s : State) :
    (resetBlock s).outside = { s.outside with freeCount := s.outside.freeCount + 6 } := rfl

/-- Settles O30: `RESET` has no precondition, and of the outside it moves the count of free values only. -/
theorem resetClearsTheTransfer : Obligations.ResetClearsTheTransfer := by
  refine ⟨fun s => ?_, rfl, rfl, rfl, rfl, rfl, rfl⟩
  obtain ⟨htag, hphase, hresult, hresp⟩ := resetBlock_clears s
  exact ⟨_, _, exec_reset s, htag, hphase, hresult, hresp, resetBlock_params s, resetBlock_outside s⟩

/-! ### The invariant after reset (R34, R202) -/

theorem Memory.below_nil (n : Nat) : Memory.below [] n := nofun

/-- Settles O48: the phase is `PH_IDLE` with the tag and result it requires, every register is zero and every
buffer empty (log 8), and nothing is scripted or issued. -/
theorem resetMeetsTheInvariant : Obligations.ResetMeetsTheInvariant where
  idleIsClean := fun _ => ⟨rfl, rfl, rfl⟩
  doneIffResult := iff_of_false nofun fun hresult => hresult rfl
  phaseFixesTag := rfl
  localSeqAfterHandshake := by simp [State.reset]
  localSeqBeforeHandshake := fun _ => rfl
  remoteSeqIsR := fun _ => rfl
  synTimeInPast := fun _ => le_rfl
  lastActivityInPast := fun _ => le_rfl
  requestFits := Nat.zero_le _
  rxbufCanonical := Memory.wf_nil
  rxbufInside := Memory.below_nil _
  rxLenFits := Nat.zero_le _
  channelDuty := nofun
  callerDuty := nofun

end Sys2Proof.Machine
end
